-- ==== Sys2Proof/Word.lean ====
section
/-! DEFINITION. The two word types of the hardware (00_scope.md R10, R13): an 8-bit byte and a 16-bit
word. Both wrap; every helper over them that a test could prove wrong is in Machine/Bits.lean. -/

namespace Sys2Proof

/-- u8 of 00_scope.md R13. -/
abbrev Byte := BitVec 8

/-- u16 of 00_scope.md R13: addresses, SP, PC and the register pairs. -/
abbrev Word := BitVec 16

end Sys2Proof
end

