-- ==== Sys2Proof/Machine/Bits.lean ====
section
/-! DEFINITION. Bit fields, byte order and sign extension of 00_scope.md R12 to R14: the helpers that both the
decoder and the machine use. -/

namespace Sys2Proof.Bits

/-- `hi(v16) = v16[15:8]` (00_scope.md R14). -/
def hi (v : Word) : Byte := v.extractLsb' 8 8

/-- `lo(v16) = v16[7:0]` (00_scope.md R14). -/
def lo (v : Word) : Byte := v.extractLsb' 0 8

/-- `cat(h, l) = h*256 + l` (00_scope.md R14). -/
def cat (h l : Byte) : Word := h ++ l

/-- `sext_16(v)` (00_scope.md R13). -/
def sext16 (v : Byte) : Word := v.signExtend 16

/-- The byte with bit `i` made equal to `b` and every other bit kept. -/
def setBit (v : Byte) (i : Nat) (b : Bool) : Byte :=
  if b then v ||| (1#8 <<< i) else v &&& ~~~(1#8 <<< i)

end Sys2Proof.Bits
end

