-- ==== Sys2Proof/WellFormed.lean ====
section
/-! DEFINITION. Which terms of `Instr` are instructions of the hardware. Every immediate is a byte or a word
of its exact width and every other operand is part of the constructor, so one check is left: the 0xCB prefix
is a row of the table but "not an instruction by itself" (30_encoding.md R174, 46_system.md R415). -/

namespace Sys2Proof

/-- The prefix alone is not an instruction (30_encoding.md R174); every other term is. -/
def Instr.wellFormed (i : Instr) : Bool :=
  match i with
  | .prefixCb => false
  | _ => true

end Sys2Proof
end

