-- ==== Sys2Proof/Machine/Memory.lean ====
section
/-! DEFINITION. The store that holds memory, ROM and the frame's rows: a list of (key, value) pairs in ONE
canonical form, keys strictly rising and no value equal to what an unlisted key reads as, so that equal
contents are equal lists. -/

namespace Sys2Proof

section
variable {α : Type} [DecidableEq α]

/-- What a key reads as: its listed value, or `dflt` where it is not listed. -/
def storeRead (dflt : α) (m : List (Nat × α)) (k : Nat) : α :=
  match m with
  | [] => dflt
  | (k', v) :: rest => if k' = k then v else storeRead dflt rest k

/-- Puts a value at a key and keeps the canonical form: writing `dflt` removes the entry. -/
def storeWrite (dflt : α) (m : List (Nat × α)) (k : Nat) (v : α) : List (Nat × α) :=
  match m with
  | [] => if v = dflt then [] else [(k, v)]
  | (k', v') :: rest =>
    if k < k' then
      if v = dflt then (k', v') :: rest else (k, v) :: (k', v') :: rest
    else if k = k' then
      if v = dflt then rest else (k, v) :: rest
    else (k', v') :: storeWrite dflt rest k v

/-- Every key of the list is at least `lo`, they rise strictly, and no value is `dflt`. -/
def storeWfFrom (dflt : α) (lo : Nat) (m : List (Nat × α)) : Bool :=
  match m with
  | [] => true
  | (k, v) :: rest => decide (lo ≤ k) && decide (v ≠ dflt) && storeWfFrom dflt (k + 1) rest

/-- The canonical form of a store. -/
def storeWf (dflt : α) (m : List (Nat × α)) : Bool := storeWfFrom dflt 0 m

/-- The store that holds the values of a list at consecutive keys from `k` on. -/
def storeWriteList (dflt : α) (m : List (Nat × α)) (k : Nat) (vs : List α) : List (Nat × α) :=
  match vs with
  | [] => m
  | v :: rest => storeWriteList dflt (storeWrite dflt m k v) (k + 1) rest

end

/-- What a byte of memory that is not listed reads as: 0x00. For RAM a DESIGN CHOICE (log entry 1: the
deterministic simulator's value of 70_reset_and_hazards.md R557); for ROM past the image 20_memory.md R126. -/
def unlistedByte : Byte := 0

/-- One byte of a memory. -/
def Memory.read (m : List (Nat × Byte)) (k : Nat) : Byte := storeRead unlistedByte m k

/-- A memory with one byte written. -/
def Memory.write (m : List (Nat × Byte)) (k : Nat) (v : Byte) : List (Nat × Byte) := storeWrite unlistedByte m k v

/-- A memory with consecutive bytes written. -/
def Memory.writeList (m : List (Nat × Byte)) (k : Nat) (vs : List Byte) : List (Nat × Byte) :=
  storeWriteList unlistedByte m k vs

/-- The canonical form of a memory. -/
def Memory.wf (m : List (Nat × Byte)) : Bool := storeWf unlistedByte m

end Sys2Proof
end

