-- ==== Sys2Proof/Config.lean ====
section
/-! DEFINITION. What is fixed for one machine: the sizes of 00_scope.md R10, and the inputs the model takes as
arguments and does not fix (R11). The cycle and dot counts of R10 are in Machine/Params.lean. -/

namespace Sys2Proof

namespace Config

/-- ROM_BANK_SIZE (R10). -/
def romBankSize : Nat := 0x4000

/-- ROM_CAPACITY for ROM ONLY: 2 banks, 32 KiB (R10). -/
def romOnlyCapacity : Nat := 2 * romBankSize

/-- ROM_CAPACITY for MBC1: 32 banks, 512 KiB (R10). -/
def mbc1Capacity : Nat := 32 * romBankSize

/-- BOOT_ROM_SIZE (R10). -/
def bootRomSize : Nat := 256

/-- The shortest image whose header 0x134-0x149 is complete (20_memory.md R127). -/
def minImageSize : Nat := 0x150

/-- OAM_SIZE: 40 entries of 4 bytes (R10, 90_conflicts.md C1). -/
def oamSize : Nat := 160

/-- The number of sprite entries in OAM (10_state.md R80). -/
def oamEntries : Nat := 40

/-- SCREEN_WIDTH (R10). -/
def screenWidth : Nat := 160

/-- VISIBLE_LINES: LY 0 to 143 (R10). -/
def visibleLines : Nat := 144

/-- MAX_SPRITES_PER_LINE (R10). -/
def maxSpritesPerLine : Nat := 10

end Config

/-- The eight buttons of 10_state.md R88. -/
inductive Button where
  | right | left | up | down | a | b | select | start
deriving DecidableEq, Repr

/-- One transition of a button by the host (60_exceptions.md R540): `released` is the flag's new value. -/
structure ButtonEvent where
  button : Button
  released : Bool
deriving DecidableEq, Repr

/-- A draw `initial_regs` (00_scope.md R11, 70_reset_and_hazards.md R552): the registers at power-on with a boot
ROM. -/
structure InitialRegs where
  a : Byte
  f : Byte
  b : Byte
  c : Byte
  d : Byte
  e : Byte
  h : Byte
  l : Byte
  sp : Word
deriving DecidableEq, Repr

/-- The inputs of a load (00_scope.md R11). `initialMemory` gives power-on bytes of RAM by bus address; an
address it does not list is 0x00, the deterministic simulator's value (R557). `hostInput` gives the transitions
the host applies at each step boundary to come, in order. -/
structure LoadInputs where
  cartImage : List Byte
  bootRom : Option (List Byte)
  initialMemory : List (Nat × Byte)
  initialRegs : InitialRegs
  hostInput : List (List ButtonEvent)
deriving DecidableEq, Repr

end Sys2Proof
end

