-- ==== Sys2Proof/Machine/Params.lean ====
section
/-! DEFINITION. The cycle and dot counts of 00_scope.md R10 that the step, the timer and the PPU use. -/

namespace Sys2Proof.Params

/-- DOTS_PER_CYCLE (R10). -/
def dotsPerCycle : Nat := 4

/-- OAM_SCAN_DOTS (R10, 60_exceptions.md R500). -/
def oamScanDots : Nat := 80

/-- DRAW_DOTS (R10, 60_exceptions.md R500, 90_conflicts.md C6). -/
def drawDots : Nat := 230

/-- HBLANK_DOTS (R10, 60_exceptions.md R500, 90_conflicts.md C6). -/
def hblankDots : Nat := 146

/-- LINE_DOTS (R10). -/
def lineDots : Nat := 456

/-- VBLANK_DOTS (R10, 60_exceptions.md R500). -/
def vblankDots : Nat := 4560

/-- DIV_PERIOD (R10). -/
def divPeriod : Nat := 64

/-- HALT_IDLE_CYCLES (R10, 70_reset_and_hazards.md R581). -/
def haltIdleCycles : Nat := 1

/-- INT_DISPATCH_CYCLES (R10, 70_reset_and_hazards.md R581). -/
def intDispatchCycles : Nat := 5

/-- UNASSIGNED_OPCODE_CYCLES (R10, 46_system.md R416). -/
def unassignedOpcodeCycles : Nat := 1

end Sys2Proof.Params
end

