-- ==== Sys2Proof/Machine/State.lean ====
section
/-! DEFINITION. The state of the machine: everything 10_state.md names, as plain data, and the state after reset
(70_reset_and_hazards.md R550 to R559). INVENTORY.md, '## State', lists every field with its rule. -/

namespace Sys2Proof.Machine

/-- The CPU register file (10_state.md R40 to R47). The pairs are views (R41). -/
structure Cpu where
  a : Byte
  f : Byte
  b : Byte
  c : Byte
  d : Byte
  e : Byte
  h : Byte
  l : Byte
  sp : Word
  pc : Word
deriving DecidableEq, Repr

/-- Interrupt and halt state (10_state.md R48 to R52). -/
structure Irq where
  ime : Bool
  eiPending : Bool
  halted : Bool
  ifReg : Byte
  ieReg : Byte
deriving DecidableEq, Repr

/-- The timer (10_state.md R55 to R60). -/
structure Timer where
  div : Byte
  divSub : Nat
  tima : Byte
  tma : Byte
  tac : Byte
  timaSub : Nat
deriving DecidableEq, Repr

/-- The PPU mode (10_state.md R65). -/
inductive Mode where
  | hblank | vblank | oamScan | draw
deriving DecidableEq, Repr

/-- The PPU's registers and counters (10_state.md R65 to R77). -/
structure Ppu where
  mode : Mode
  dotsRemaining : Int
  vblankDots : Nat
  frameCount : Nat
  lcdc : Byte
  stat : Byte
  scy : Byte
  scx : Byte
  ly : Byte
  lyc : Byte
  dma : Byte
  bgp : Byte
  obp0 : Byte
  obp1 : Byte
  wy : Byte
  wx : Byte
deriving DecidableEq, Repr

/-- The cartridge, its bank controller and the boot-ROM overlay (10_state.md R64, R83 to R87). `rom` and `cartLow`
hold bytes by offset into the flat buffer; an offset not listed reads 0x00 (20_memory.md R126). -/
structure Cart where
  cartType : Byte
  rom : List Host.Cell
  romBank : BitVec 5
  cartLow : List Host.Cell
  bootImage : Option (List Byte)
  disableBootrom : Bool
deriving DecidableEq, Repr

/-- The joypad shadow (10_state.md R88): the select bits, and one `released` flag for each button. -/
structure Joypad where
  p1Select : BitVec 2
  right : Bool
  left : Bool
  up : Bool
  down : Bool
  a : Bool
  b : Bool
  select : Bool
  start : Bool
deriving DecidableEq, Repr

/-- The output event of a v-blank entry (60_exceptions.md R511, R541): the frame, by rows as in `State.frame`, and
the value of frame_count. -/
structure FrameEvent where
  frameCount : Nat
  frame : List (Nat × List (BitVec 2))
deriving DecidableEq, Repr

/-- The whole state.
* `mem` holds every RAM byte by its bus address: tile data, tile maps, cart_ram, WRAM, OAM, scratch I/O and HRAM
  (10_state.md R61 to R63, R78 to R80, R84), in the canonical form of Machine/Memory.lean.
* `frame` holds the frame buffer (R82) by line: a line that is not listed is all shade 0.
* `presented` is the last frame event; `cycles` is R54.
* `cost` is what the last `execute` returned, and after a step what `step()` returned (60_exceptions.md R430): the
  model's own field (log entry 5).
* `hostInput` is the host's transitions to come, one list for each step boundary: the model's own field for the
  parameter host_input (log entry 4). -/
structure State where
  cpu : Cpu
  irq : Irq
  timer : Timer
  ppu : Ppu
  cart : Cart
  joypad : Joypad
  mem : List Host.Cell
  frame : List (Nat × List (BitVec 2))
  presented : Option FrameEvent
  cycles : BitVec 64
  cost : Nat
  hostInput : List (List ButtonEvent)
deriving DecidableEq, Repr

/-- Why the core does not run: the load-time failures of 20_memory.md R127, the only failures the hardware has
(60_exceptions.md R433). Only `State.load` answers them; no step does. -/
inductive Fault where
  /-- Raised by `State.load` for an image shorter than 0x150 bytes. Safe: the core does not start (R127). -/
  | malformedImage
  /-- Raised by `State.load` for an image longer than its type's capacity. Safe: the core does not start (R127). -/
  | oversizedImage
  /-- Raised by `State.load` for a cartridge type other than 0 to 3. Safe: the core does not start (R121, R127). -/
  | unsupportedCartridge
  /-- Raised by `State.load` for a boot ROM that is not 256 bytes long. Safe: the core does not start (R127). -/
  | malformedBootRom
deriving DecidableEq, Repr

/-- Refusals. No rule of the spec refuses (00_scope.md R18), and every instruction has its meaning. -/
inductive Refusal where
  /-- Raised by an arm of `exec` whose instruction has no meaning yet: no arm is left. Safe: the run stops. -/
  | notModelled (mnemonic : String)
deriving DecidableEq, Repr

/-- The outcome of a meaning or a step. -/
abbrev Result := Host.Outcome State Fault Refusal

/-- The CPU registers when no boot ROM is given (70_reset_and_hazards.md R553). -/
def Cpu.reset : Cpu where
  a := 0x01
  f := 0xB0
  b := 0x00
  c := 0x13
  d := 0x00
  e := 0xD8
  h := 0x01
  l := 0x4D
  sp := 0xFFFE
  pc := 0x0100

/-- CPU control state in both cases (70_reset_and_hazards.md R554). -/
def Irq.reset : Irq where
  ime := false
  eiPending := false
  halted := false
  ifReg := 0x00
  ieReg := 0x00

/-- Timer state in both cases (70_reset_and_hazards.md R555). -/
def Timer.reset : Timer where
  div := 0
  divSub := 0
  tima := 0
  tma := 0
  tac := 0
  timaSub := 0

/-- PPU state when no boot ROM is given (70_reset_and_hazards.md R556). -/
def Ppu.reset : Ppu where
  mode := .oamScan
  dotsRemaining := 80
  vblankDots := 0
  frameCount := 0
  lcdc := 0x91
  stat := 0x06
  scy := 0
  scx := 0
  ly := 0
  lyc := 0
  dma := 0
  bgp := 0xFC
  obp0 := 0
  obp1 := 0
  wy := 0
  wx := 0

/-- No cartridge image and no boot ROM: every ROM byte reads 0x00, type 0x00 (ROM ONLY), bank 1
(70_reset_and_hazards.md R554, R558). DESIGN CHOICE: the image is a parameter (00_scope.md R11); see log entry 2. -/
def Cart.reset : Cart where
  cartType := 0x00
  rom := []
  romBank := 1
  cartLow := []
  bootImage := none
  disableBootrom := true

/-- The joypad shadow: no group selected, no button pressed (70_reset_and_hazards.md R559). -/
def Joypad.reset : Joypad where
  p1Select := 0b11
  right := true
  left := true
  up := true
  down := true
  a := true
  b := true
  select := true
  start := true

/-- The machine right after reset, with no boot ROM, no cartridge image and no host input (70_reset_and_hazards.md
R550 to R559): nothing is listed in memory, and the frame is all shade 0. -/
def State.reset : State where
  cpu := Cpu.reset
  irq := Irq.reset
  timer := Timer.reset
  ppu := Ppu.reset
  cart := Cart.reset
  joypad := Joypad.reset
  mem := []
  frame := []
  presented := none
  cycles := 0
  cost := 0
  hostInput := []

end Sys2Proof.Machine
end

