-- ==== Sys2Proof/Machine/Ops.lean ====
section
/-! DEFINITION. The named operations over registers, flags, the bus and interrupts: the bus decoder of
20_memory.md R111 to R131 with every write side effect, fetch and stack (00_scope.md R17), the interrupt
request, its entry `dispatch` (60_exceptions.md R441) and the return from it. -/

namespace Sys2Proof.Machine

open Bits

/-! ### Registers and flags -/

/-- F.Z is bit 7 (10_state.md R43). -/
def State.flagZ (s : State) : Bool := s.cpu.f.getLsbD 7

/-- F.N is bit 6 (10_state.md R43). -/
def State.flagN (s : State) : Bool := s.cpu.f.getLsbD 6

/-- F.H is bit 5 (10_state.md R43). -/
def State.flagH (s : State) : Bool := s.cpu.f.getLsbD 5

/-- F.C is bit 4 (10_state.md R43). -/
def State.flagC (s : State) : Bool := s.cpu.f.getLsbD 4

/-- The byte F that holds these four flags and a low nibble of zero (10_state.md R42, R43). -/
def packFlags (z n h c : Bool) : Byte :=
  BitVec.ofBool z ++ BitVec.ofBool n ++ BitVec.ofBool h ++ BitVec.ofBool c ++ 0#4

/-- Writes the four flags. An instruction that leaves a flag passes its old value (00_scope.md R20). -/
def State.setFlags (s : State) (z n h c : Bool) : State :=
  { s with cpu := { s.cpu with f := packFlags z n h c } }

/-- Writes A. -/
def State.setA (s : State) (v : Byte) : State := { s with cpu := { s.cpu with a := v } }

/-- Writes SP. -/
def State.setSp (s : State) (v : Word) : State := { s with cpu := { s.cpu with sp := v } }

/-- Writes PC. -/
def State.setPc (s : State) (v : Word) : State := { s with cpu := { s.cpu with pc := v } }

/-- BC as a 16-bit view (10_state.md R41). -/
def State.bc (s : State) : Word := cat s.cpu.b s.cpu.c

/-- DE as a 16-bit view (10_state.md R41). -/
def State.de (s : State) : Word := cat s.cpu.d s.cpu.e

/-- HL as a 16-bit view (10_state.md R41). -/
def State.hl (s : State) : Word := cat s.cpu.h s.cpu.l

/-- AF as a 16-bit view (10_state.md R41). -/
def State.af (s : State) : Word := cat s.cpu.a s.cpu.f

/-- Writes BC through its 16-bit view (10_state.md R41). -/
def State.setBc (s : State) (v : Word) : State := { s with cpu := { s.cpu with b := hi v, c := lo v } }

/-- Writes DE through its 16-bit view (10_state.md R41). -/
def State.setDe (s : State) (v : Word) : State := { s with cpu := { s.cpu with d := hi v, e := lo v } }

/-- Writes HL through its 16-bit view (10_state.md R41). -/
def State.setHl (s : State) (v : Word) : State := { s with cpu := { s.cpu with h := hi v, l := lo v } }

/-- Writes AF through its 16-bit view; F stores `v & 0xF0` (10_state.md R41, R42). -/
def State.setAf (s : State) (v : Word) : State :=
  { s with cpu := { s.cpu with a := hi v, f := lo v &&& 0xF0 } }

/-- Records the cycles an instruction or a step returns (00_scope.md R19, 60_exceptions.md R430; log entry 5). -/
def State.withCost (s : State) (n : Nat) : State := { s with cost := n }

/-! ### Interrupt requests and the LY = LYC coincidence -/

/-- `request(k)`: IF <- IF | (1 << k) (60_exceptions.md R436). -/
def State.request (s : State) (k : Nat) : State :=
  { s with irq := { s.irq with ifReg := s.irq.ifReg ||| (1#8 <<< k) } }

/-- `lyc_check()` (60_exceptions.md R513): STAT bit 2 becomes LY = LYC, and a rising edge with STAT bit 6 set
requests interrupt 1. -/
def State.lycCheck (s : State) : State :=
  let eq := s.ppu.ly == s.ppu.lyc
  let s' := { s with ppu := { s.ppu with stat := setBit s.ppu.stat 2 eq } }
  if eq && !s.ppu.stat.getLsbD 2 && s.ppu.stat.getLsbD 6 then s'.request 1 else s'

/-! ### The bus decoder -/

/-- The component an address is routed to: "exactly one backing component" (20_memory.md R111), a row of R112. -/
inductive Region where
  | romFixed | romBanked | tileData | tileMap1 | tileMap2 | cartRam | wram | unmapped | oam
  | joypad | div | tima | tma | tac | ifReg
  | lcdc | stat | scy | scx | ly | lyc | dma | bgp | obp0 | obp1 | wy | wx
  | bootDisable | scratch | hram | ie
deriving DecidableEq, Repr

/-- The row of the I/O page 0xFF00-0xFF7F (20_memory.md R112, R118; 10_state.md R69). -/
def routeIo (n : Nat) : Region :=
  if n = 0xFF00 then .joypad
  else if n = 0xFF04 then .div
  else if n = 0xFF05 then .tima
  else if n = 0xFF06 then .tma
  else if n = 0xFF07 then .tac
  else if n = 0xFF0F then .ifReg
  else if n = 0xFF40 then .lcdc
  else if n = 0xFF41 then .stat
  else if n = 0xFF42 then .scy
  else if n = 0xFF43 then .scx
  else if n = 0xFF44 then .ly
  else if n = 0xFF45 then .lyc
  else if n = 0xFF46 then .dma
  else if n = 0xFF47 then .bgp
  else if n = 0xFF48 then .obp0
  else if n = 0xFF49 then .obp1
  else if n = 0xFF4A then .wy
  else if n = 0xFF4B then .wx
  else if n = 0xFF50 then .bootDisable
  else .scratch

/-- The routing of R112 and R113 by address range. -/
def route (a : Word) : Region :=
  let n := a.toNat
  if n < 0x4000 then .romFixed
  else if n < 0x8000 then .romBanked
  else if n < 0x9800 then .tileData
  else if n < 0x9C00 then .tileMap1
  else if n < 0xA000 then .tileMap2
  else if n < 0xC000 then .cartRam
  else if n < 0xE000 then .wram
  else if n < 0xFE00 then .unmapped
  else if n < 0xFEA0 then .oam
  else if n < 0xFF00 then .unmapped
  else if n < 0xFF80 then routeIo n
  else if n < 0xFFFF then .hram
  else .ie

/-- The regions whose bytes are plain memory: read back as last written, no side effect. -/
def Region.isMemory (r : Region) : Bool :=
  match r with
  | .tileData | .tileMap1 | .tileMap2 | .cartRam | .wram | .oam | .scratch | .hram => true
  | _ => false

/-- The offset into the flat ROM buffer of an address of 0x4000-0x7FFF (20_memory.md R120). -/
def Cart.bankOffset (c : Cart) (a : Word) : Nat :=
  c.romBank.toNat * Config.romBankSize + (a.toNat - Config.romBankSize)

/-- The low nibble of the joypad register (60_exceptions.md R531), active low: a group's flags count when its
select bit is 0. -/
def Joypad.lowNibble (j : Joypad) : BitVec 4 :=
  let action : BitVec 4 :=
    if j.p1Select.getLsbD 1 then 0xF
    else BitVec.ofBool j.start ++ BitVec.ofBool j.select ++ BitVec.ofBool j.b ++ BitVec.ofBool j.a
  let direction : BitVec 4 :=
    if j.p1Select.getLsbD 0 then 0xF
    else BitVec.ofBool j.down ++ BitVec.ofBool j.up ++ BitVec.ofBool j.left ++ BitVec.ofBool j.right
  action &&& direction

/-- A read of 0xFF00 (60_exceptions.md R531). -/
def Joypad.read (j : Joypad) : Byte := 0b11#2 ++ j.p1Select ++ j.lowNibble

/-- `MemRead(addr, 1)`: the read decoder (20_memory.md R112). No read has a side effect (R119). -/
def State.busRead (s : State) (a : Word) : Byte :=
  match route a with
  | .romFixed => Memory.read s.cart.rom a.toNat
  | .romBanked => Memory.read s.cart.rom (s.cart.bankOffset a)
  | .tileData | .tileMap1 | .tileMap2 | .cartRam | .wram | .oam | .scratch | .hram =>
    Memory.read s.mem a.toNat
  | .unmapped => 0x00
  | .joypad => s.joypad.read
  | .div => s.timer.div
  | .tima => s.timer.tima
  | .tma => s.timer.tma
  | .tac => s.timer.tac
  | .ifReg => s.irq.ifReg
  | .lcdc => s.ppu.lcdc
  | .stat => s.ppu.stat &&& 0x7F
  | .scy => s.ppu.scy
  | .scx => s.ppu.scx
  | .ly => s.ppu.ly
  | .lyc => s.ppu.lyc
  | .dma => s.ppu.dma
  | .bgp => s.ppu.bgp
  | .obp0 => s.ppu.obp0
  | .obp1 => s.ppu.obp1
  | .wy => s.ppu.wy
  | .wx => s.ppu.wx
  | .bootDisable => 0x00
  | .ie => s.irq.ieReg

/-- Stores a byte of plain memory at its bus address. -/
def State.memWrite (s : State) (n : Nat) (v : Byte) : State := { s with mem := Memory.write s.mem n v }

/-- The cartridges with the bank select of R122: types 0x01, 0x02, 0x03 (20_memory.md R121). -/
def Cart.isMbc1 (c : Cart) : Bool := c.cartType == 0x01 || c.cartType == 0x02 || c.cartType == 0x03

/-- The bank a write of v selects: `v & 0x1F`, 0 coerced to 1 (20_memory.md R122). -/
def bankSelect (v : Byte) : BitVec 5 :=
  let b := v.extractLsb' 0 5
  if b = 0 then 1 else b

/-- A write to 0x0000-0x3FFF: the MBC1 bank select in 0x2000-0x3FFF, otherwise ignored (20_memory.md R122, R123). -/
def State.writeRomFixed (s : State) (a : Word) (v : Byte) : State :=
  if s.cart.isMbc1 && decide (0x2000 ≤ a.toNat) then
    { s with cart := { s.cart with romBank := bankSelect v } }
  else s

/-- A ROM with the bytes 0x00 to 0xFF of another in place of its own (20_memory.md R130, R131). -/
def overlayLow (rom low : List Host.Cell) : List Host.Cell :=
  (List.range Config.bootRomSize).foldl (fun r i => Memory.write r i (Memory.read low i)) rom

/-- A write to 0xFF50, of any value (20_memory.md R131). -/
def State.writeBootDisable (s : State) : State :=
  if s.cart.disableBootrom then s
  else { s with cart := { s.cart with rom := overlayLow s.cart.rom s.cart.cartLow, disableBootrom := true } }

/-- The OAM transfer of a write of v to DMA (60_exceptions.md R525): DMA <- v, then 160 bus reads and OAM writes,
one after the other, at once. -/
def State.oamDma (s : State) (v : Byte) : State :=
  (List.range Config.oamSize).foldl
    (fun t i => t.memWrite (0xFE00 + i) (t.busRead (BitVec.ofNat 16 (v.toNat * 0x100 + i))))
    { s with ppu := { s.ppu with dma := v } }

/-- `MemWrite(addr, 1, v)`: the write decoder, with every side effect (20_memory.md R113). -/
def State.busWrite (s : State) (a : Word) (v : Byte) : State :=
  match route a with
  | .romFixed => s.writeRomFixed a v
  | .romBanked => s
  | .tileData | .tileMap1 | .tileMap2 | .cartRam | .wram | .oam | .scratch | .hram =>
    s.memWrite a.toNat v
  | .unmapped => s
  | .joypad => { s with joypad := { s.joypad with p1Select := v.extractLsb' 4 2 } }
  | .div => { s with timer := { s.timer with div := 0, divSub := 0 } }
  | .tima => { s with timer := { s.timer with tima := v } }
  | .tma => { s with timer := { s.timer with tma := v } }
  | .tac => { s with timer := { s.timer with tac := v } }
  | .ifReg => { s with irq := { s.irq with ifReg := v } }
  | .lcdc => { s with ppu := { s.ppu with lcdc := v } }
  | .stat => { s with ppu := { s.ppu with stat := (v &&& 0x78) ||| (s.ppu.stat &&& 0x07) } }
  | .scy => { s with ppu := { s.ppu with scy := v } }
  | .scx => { s with ppu := { s.ppu with scx := v } }
  | .ly => s
  | .lyc => State.lycCheck { s with ppu := { s.ppu with lyc := v } }
  | .dma => s.oamDma v
  | .bgp => { s with ppu := { s.ppu with bgp := v } }
  | .obp0 => { s with ppu := { s.ppu with obp0 := v } }
  | .obp1 => { s with ppu := { s.ppu with obp1 := v } }
  | .wy => { s with ppu := { s.ppu with wy := v } }
  | .wx => { s with ppu := { s.ppu with wx := v } }
  | .bootDisable => s.writeBootDisable
  | .ie => { s with irq := { s.irq with ieReg := v } }

/-- `MemWrite(addr, 2, v)`: lo(v) to addr, then hi(v) to wrap16(addr + 1) (00_scope.md R16). -/
def State.busWrite16 (s : State) (a : Word) (v : Word) : State :=
  (s.busWrite a (lo v)).busWrite (a + 1) (hi v)

/-- `MemRead(addr, 2)` (00_scope.md R16). -/
def State.busRead16 (s : State) (a : Word) : Word := cat (s.busRead (a + 1)) (s.busRead a)

/-! ### Fetch and stack -/

/-- `fetch8()` (00_scope.md R17): the byte at PC, and the state with PC moved past it. -/
def State.fetch8 (s : State) : Byte × State := (s.busRead s.cpu.pc, s.setPc (s.cpu.pc + 1))

/-- `push16(v)` (00_scope.md R17): the high byte first, at SP - 1, then the low byte, at SP - 2. -/
def State.push16 (s : State) (v : Word) : State :=
  let s1 := s.setSp (s.cpu.sp - 1)
  let s2 := s1.busWrite s1.cpu.sp (hi v)
  let s3 := s2.setSp (s2.cpu.sp - 1)
  s3.busWrite s3.cpu.sp (lo v)

/-- The value `pop16()` returns (00_scope.md R17): the low byte at SP, the high byte at SP + 1. -/
def State.stackTop (s : State) : Word := s.busRead16 s.cpu.sp

/-- SP after `pop16()` (00_scope.md R17). -/
def State.dropStack (s : State) : State := s.setSp (s.cpu.sp + 2)

/-! ### Interrupt entry and return -/

/-- `dispatch(k)`, the interrupt entry (60_exceptions.md R441): IME and the request bit cleared, PC pushed, PC at
the vector 0x0040 + 8*k. IE and every other register are left as they are. DESIGN CHOICE: the EI latch is one of
these, so an EI that ran with IME already 1, in the step whose end dispatches, sets IME again at the start of the
handler's first step (log entry 24). -/
def State.dispatch (s : State) (k : Nat) : State :=
  let s1 := { s with irq := { s.irq with ime := false, ifReg := s.irq.ifReg &&& ~~~(1#8 <<< k) } }
  (s1.push16 s1.cpu.pc).setPc (BitVec.ofNat 16 (0x40 + 8 * k))

/-- The return from an interrupt (45_control.md R389, 60_exceptions.md R444): PC popped, IME set at once, the EI
latch cleared. -/
def State.returnFromInterrupt (s : State) : State :=
  let s1 := s.dropStack.setPc s.stackTop
  { s1 with irq := { s1.irq with ime := true, eiPending := false } }

/-- `IE & IF & 0x1F` (60_exceptions.md R440). -/
def Irq.pending (q : Irq) : BitVec 5 := (q.ieReg &&& q.ifReg).extractLsb' 0 5

/-- The lowest set bit of the pending mask: v-blank first, joypad last (60_exceptions.md R440, R442). -/
def lowestSet (p : BitVec 5) : Nat :=
  if p.getLsbD 0 then 0
  else if p.getLsbD 1 then 1
  else if p.getLsbD 2 then 2
  else if p.getLsbD 3 then 3
  else 4

/-- The cycles `interrupt_evaluate()` returns (60_exceptions.md R440). -/
def State.interruptCost (s : State) : Nat :=
  if s.irq.ime && decide (s.irq.pending ≠ 0) then Params.intDispatchCycles else 0

/-- `interrupt_evaluate()` (60_exceptions.md R440): a pending and enabled interrupt wakes a halted CPU whatever
IME is, and is dispatched when IME is set. -/
def State.interruptEvaluate (s : State) : State :=
  if !s.irq.ime && !s.irq.halted then s
  else if s.irq.pending = 0 then s
  else
    let k := lowestSet s.irq.pending
    let s1 := { s with irq := { s.irq with halted := false } }
    if s1.irq.ime then s1.dispatch k else s1

end Sys2Proof.Machine
end

