-- ==== Sys2Proof/Machine/Flags.lean ====
section
/-! DEFINITION. Every flag computation of the spec, as pure functions: the ALU functions of 41_alu8.md R240 to R247,
the 16-bit adds of 42_alu16.md R300 and R303, and the shift functions of 43_rotate_shift.md R320 to R327. -/

namespace Sys2Proof.Machine

open Bits

/-- The outputs (r, z, h, c) of an 8-bit ALU function. -/
structure AluResult where
  r : Byte
  z : Bool
  h : Bool
  c : Bool
deriving DecidableEq, Repr

/-- `add8(a, b, cin)` (41_alu8.md R240, 90_conflicts.md C9). -/
def add8 (a b : Byte) (cin : Bool) : AluResult :=
  let s := a.toNat + b.toNat + cin.toNat
  let r := BitVec.ofNat 8 s
  { r := r, z := r == 0, h := (a ^^^ b ^^^ r).getLsbD 4, c := decide (s > 0xFF) }

/-- `sub8(a, b, cin)` (41_alu8.md R241, 90_conflicts.md C9). -/
def sub8 (a b : Byte) (cin : Bool) : AluResult :=
  let d : Int := a.toNat - b.toNat - cin.toNat
  let r := BitVec.ofInt 8 d
  { r := r, z := r == 0, h := (a ^^^ b ^^^ r).getLsbD 4, c := decide (d < 0) }

/-- `and8(a, b)` (41_alu8.md R242). -/
def and8 (a b : Byte) : AluResult :=
  let r := a &&& b
  { r := r, z := r == 0, h := true, c := false }

/-- `xor8(a, b)` (41_alu8.md R243). -/
def xor8 (a b : Byte) : AluResult :=
  let r := a ^^^ b
  { r := r, z := r == 0, h := false, c := false }

/-- `or8(a, b)` (41_alu8.md R244). -/
def or8 (a b : Byte) : AluResult :=
  let r := a ||| b
  { r := r, z := r == 0, h := false, c := false }

/-- `inc8(v)` (41_alu8.md R245); `c` is the carry passed in, which INC leaves unchanged. -/
def inc8 (v : Byte) (c : Bool) : AluResult :=
  let r := v + 1
  { r := r, z := r == 0, h := v &&& 0x0F == 0x0F, c := c }

/-- `dec8(v)` (41_alu8.md R246); `c` is the carry passed in, which DEC leaves unchanged. -/
def dec8 (v : Byte) (c : Bool) : AluResult :=
  let r := v - 1
  { r := r, z := r == 0, h := v &&& 0x0F == 0x00, c := c }

/-- `daa(a, n, h, c)` (41_alu8.md R247); the H output is the 0 that DAA writes (R278). -/
def daa (a : Byte) (n h c : Bool) : AluResult :=
  if n then
    let t := if c then a - 0x60 else a
    let r := if h then t - 0x06 else t
    { r := r, z := r == 0, h := false, c := c }
  else
    let high := c || decide (a.toNat > 0x99)
    let t := if high then a + 0x60 else a
    let r := if h || decide ((a &&& 0x0F).toNat > 0x09) then t + 0x06 else t
    { r := r, z := r == 0, h := false, c := high }

/-- The function an ALU operation names (30_encoding.md R168); `cin` is the carry ADC and SBC read. CP is the
subtraction without its result stored (41_alu8.md R271). -/
def aluFun (op : AluOp) (a b : Byte) (cin : Bool) : AluResult :=
  match op with
  | .add => add8 a b false
  | .adc => add8 a b cin
  | .sub => sub8 a b false
  | .sbc => sub8 a b cin
  | .and => and8 a b
  | .xor => xor8 a b
  | .or => or8 a b
  | .cp => sub8 a b false

/-- The N flag an ALU operation writes: 1 for SUB, SBC and CP (41_alu8.md R250 to R273). -/
def aluN (op : AluOp) : Bool :=
  match op with
  | .sub | .sbc | .cp => true
  | .add | .adc | .and | .xor | .or => false

/-- The sum, half-carry (out of bit 11) and carry (out of bit 15) of ADD HL,rr (42_alu16.md R300). -/
def addHl16 (a b : Word) : Word × Bool × Bool :=
  let s := a.toNat + b.toNat
  let r := BitVec.ofNat 16 s
  (r, (a ^^^ b ^^^ r).getLsbD 12, decide (s > 0xFFFF))

/-- `add_sp_e8(sp, e)` (42_alu16.md R303): the sum, and the carries out of bits 3 and 7 of the low byte. -/
def addSpE8Fun (sp : Word) (e : Byte) : Word × Bool × Bool :=
  (sp + sext16 e,
   decide ((sp.toNat % 0x10) + (e.toNat % 0x10) > 0x0F),
   decide ((sp.toNat % 0x100) + e.toNat > 0xFF))

/-- `rlc(v)` (43_rotate_shift.md R320): the result and the bit shifted out. -/
def rlcFun (v : Byte) : Byte × Bool :=
  ((v <<< 1) ||| (BitVec.ofBool (v.getLsbD 7)).setWidth 8, v.getLsbD 7)

/-- `rrc(v)` (43_rotate_shift.md R321). -/
def rrcFun (v : Byte) : Byte × Bool :=
  ((v >>> 1) ||| ((BitVec.ofBool (v.getLsbD 0)).setWidth 8 <<< 7), v.getLsbD 0)

/-- `rl(v, cin)` (43_rotate_shift.md R322). -/
def rlFun (v : Byte) (cin : Bool) : Byte × Bool :=
  ((v <<< 1) ||| (BitVec.ofBool cin).setWidth 8, v.getLsbD 7)

/-- `rr(v, cin)` (43_rotate_shift.md R323). -/
def rrFun (v : Byte) (cin : Bool) : Byte × Bool :=
  ((v >>> 1) ||| ((BitVec.ofBool cin).setWidth 8 <<< 7), v.getLsbD 0)

/-- `sla(v)` (43_rotate_shift.md R324). -/
def slaFun (v : Byte) : Byte × Bool := (v <<< 1, v.getLsbD 7)

/-- `sra(v)` (43_rotate_shift.md R325). -/
def sraFun (v : Byte) : Byte × Bool := ((v >>> 1) ||| (v &&& 0x80), v.getLsbD 0)

/-- `swap(v)` (43_rotate_shift.md R326). -/
def swapFun (v : Byte) : Byte × Bool := (((v &&& 0x0F) <<< 4) ||| (v >>> 4), false)

/-- `srl(v)` (43_rotate_shift.md R327). -/
def srlFun (v : Byte) : Byte × Bool := (v >>> 1, v.getLsbD 0)

/-- The function an extended rotate or shift names (30_encoding.md R170); `cin` is the carry RL and RR read. -/
def shiftFun (op : ShiftOp) (v : Byte) (cin : Bool) : Byte × Bool :=
  match op with
  | .rlc => rlcFun v
  | .rrc => rrcFun v
  | .rl => rlFun v cin
  | .rr => rrFun v cin
  | .sla => slaFun v
  | .sra => sraFun v
  | .swap => swapFun v
  | .srl => srlFun v

end Sys2Proof.Machine
end

