-- ==== Sys2Proof/Machine/Operands.lean ====
section
/-! DEFINITION. Every operand form of the spec: the register fields r, rr, qq (30_encoding.md R163 to R165), the
conditions (R166), the indirect forms (R167), the high page (R172), and the shared operations that each
instruction's meaning names its operands and operation for. A meaning runs on a state whose PC is past all the
instruction's bytes (00_scope.md R19, 92_eei_decisions.md D34; log entry 6). -/

namespace Sys2Proof.Machine

open Bits

/-! ### Operand forms -/

/-- `x[r]` (30_encoding.md R163): the register, or the byte at HL. -/
def State.readR8 (s : State) (r : R8) : Byte :=
  match r with
  | .b => s.cpu.b
  | .c => s.cpu.c
  | .d => s.cpu.d
  | .e => s.cpu.e
  | .h => s.cpu.h
  | .l => s.cpu.l
  | .atHl => s.busRead s.hl
  | .a => s.cpu.a

/-- `x[r] <- v` (30_encoding.md R163). -/
def State.writeR8 (s : State) (r : R8) (v : Byte) : State :=
  match r with
  | .b => { s with cpu := { s.cpu with b := v } }
  | .c => { s with cpu := { s.cpu with c := v } }
  | .d => { s with cpu := { s.cpu with d := v } }
  | .e => { s with cpu := { s.cpu with e := v } }
  | .h => { s with cpu := { s.cpu with h := v } }
  | .l => { s with cpu := { s.cpu with l := v } }
  | .atHl => s.busWrite s.hl v
  | .a => { s with cpu := { s.cpu with a := v } }

/-- A cost that the byte at HL makes larger: `reg` for a register, `mem` for (HL) (70_reset_and_hazards.md R580). -/
def costOf (r : R8) (reg mem : Nat) : Nat :=
  match r with
  | .atHl => mem
  | .b | .c | .d | .e | .h | .l | .a => reg

/-- The pair rr (30_encoding.md R164). -/
def State.readRR (s : State) (r : RR) : Word :=
  match r with
  | .bc => s.bc
  | .de => s.de
  | .hl => s.hl
  | .sp => s.cpu.sp

/-- Writes the pair rr (30_encoding.md R164). -/
def State.writeRR (s : State) (r : RR) (v : Word) : State :=
  match r with
  | .bc => s.setBc v
  | .de => s.setDe v
  | .hl => s.setHl v
  | .sp => s.setSp v

/-- The pair qq (30_encoding.md R165). -/
def State.readQQ (s : State) (q : QQ) : Word :=
  match q with
  | .bc => s.bc
  | .de => s.de
  | .hl => s.hl
  | .af => s.af

/-- Writes the pair qq; AF drops the low nibble of F (30_encoding.md R165, 40_load.md R232). -/
def State.writeQQ (s : State) (q : QQ) (v : Word) : State :=
  match q with
  | .bc => s.setBc v
  | .de => s.setDe v
  | .hl => s.setHl v
  | .af => s.setAf v

/-- `cond(cc)` (30_encoding.md R166). -/
def State.cond (s : State) (cc : CC) : Bool :=
  match cc with
  | .nz => !s.flagZ
  | .z => s.flagZ
  | .nc => !s.flagC
  | .c => s.flagC

/-- The address an indirect form names (30_encoding.md R167). -/
def State.indAddr (s : State) (m : Ind) : Word :=
  match m with
  | .bc => s.bc
  | .de => s.de
  | .hlInc => s.hl
  | .hlDec => s.hl

/-- The HL update an indirect form makes after the access (30_encoding.md R167). -/
def State.indUpdate (s : State) (m : Ind) : State :=
  match m with
  | .bc => s
  | .de => s
  | .hlInc => s.setHl (s.hl + 1)
  | .hlDec => s.setHl (s.hl - 1)

/-- The high-page address 0xFF00 + n of the LDH forms (30_encoding.md R172). -/
def highPage (n : Byte) : Word := cat 0xFF n

/-- Ends a meaning: the next state, with the cycles the instruction returns (00_scope.md R19). -/
def finish (s : State) (cost : Nat) : Result := .next (s.withCost cost)

/-! ### Loads (40_load.md) -/

/-- `x[d] <- x[s]` (R200, R202, R203). -/
def loadR8R8 (dst src : R8) (cost : Nat) (s : State) : Result := finish (s.writeR8 dst (s.readR8 src)) cost

/-- `x[d] <- n` (R201, R204). -/
def loadR8Imm (dst : R8) (n : Byte) (cost : Nat) (s : State) : Result := finish (s.writeR8 dst n) cost

/-- `A <- MemRead(addr, 1)` (R213, R217, R219). -/
def loadAFrom (addr : Word) (cost : Nat) (s : State) : Result := finish (s.setA (s.busRead addr)) cost

/-- `MemWrite(addr, 1, A)` (R214, R216, R218). -/
def storeATo (addr : Word) (cost : Nat) (s : State) : Result := finish (s.busWrite addr s.cpu.a) cost

/-- LD A,(m): the load, then the HL update (R205, R206, R209, R210). -/
def loadAInd (m : Ind) (s : State) : Result :=
  finish ((s.setA (s.busRead (s.indAddr m))).indUpdate m) 2

/-- LD (m),A: the store, then the HL update (R207, R208, R211, R212). -/
def storeAInd (m : Ind) (s : State) : Result :=
  finish ((s.busWrite (s.indAddr m) s.cpu.a).indUpdate m) 2

/-- `rr <- v` (R220). -/
def loadRRImm (r : RR) (v : Word) (s : State) : Result := finish (s.writeRR r v) 3

/-- `push16(qq)` (R230). -/
def pushQQ (q : QQ) (s : State) : Result := finish (s.push16 (s.readQQ q)) 4

/-- `qq <- pop16()` (R231, R232). -/
def popQQ (q : QQ) (s : State) : Result := finish (s.dropStack.writeQQ q s.stackTop) 3

/-! ### 8-bit arithmetic (41_alu8.md) -/

/-- An ALU operation on A and an operand value: flags from its function, the result to A except for CP
(R250 to R273). -/
def State.applyAlu (s : State) (op : AluOp) (v : Byte) : State :=
  let x := aluFun op s.cpu.a v s.flagC
  let s' := s.setFlags x.z (aluN op) x.h x.c
  match op with
  | .cp => s'
  | .add | .adc | .sub | .sbc | .and | .xor | .or => s'.setA x.r

/-- The register and (HL) forms of an ALU operation (R248). -/
def aluR8 (op : AluOp) (r : R8) (s : State) : Result := finish (s.applyAlu op (s.readR8 r)) (costOf r 1 2)

/-- The immediate form of an ALU operation (R248). -/
def aluImm (op : AluOp) (n : Byte) (s : State) : Result := finish (s.applyAlu op n) 2

/-- INC r and INC (HL) (R274, R275). -/
def incR8 (r : R8) (s : State) : Result :=
  let x := inc8 (s.readR8 r) s.flagC
  finish ((s.writeR8 r x.r).setFlags x.z false x.h x.c) (costOf r 1 3)

/-- DEC r and DEC (HL) (R276, R277). -/
def decR8 (r : R8) (s : State) : Result :=
  let x := dec8 (s.readR8 r) s.flagC
  finish ((s.writeR8 r x.r).setFlags x.z true x.h x.c) (costOf r 1 3)

/-! ### 16-bit arithmetic (42_alu16.md) -/

/-- ADD HL,rr (R300): Z keeps its value. -/
def addHlRR (r : RR) (s : State) : Result :=
  let (v, h, c) := addHl16 s.hl (s.readRR r)
  finish ((s.setHl v).setFlags s.flagZ false h c) 2

/-- INC rr (R301). -/
def incRR (r : RR) (s : State) : Result := finish (s.writeRR r (s.readRR r + 1)) 2

/-- DEC rr (R302). -/
def decRR (r : RR) (s : State) : Result := finish (s.writeRR r (s.readRR r - 1)) 2

/-! ### Rotates, shifts and bits (43_rotate_shift.md, 44_bit.md) -/

/-- RLCA, RRCA, RLA, RRA: the shift function on A, with Z cleared (R330 to R333). -/
def rotateA (op : ShiftOp) (s : State) : Result :=
  let (r, cout) := shiftFun op s.cpu.a s.flagC
  finish ((s.setA r).setFlags false false false cout) 1

/-- An extended rotate or shift on r or (HL) (R334 to R349). -/
def shiftR8 (op : ShiftOp) (r : R8) (s : State) : Result :=
  let (v, cout) := shiftFun op (s.readR8 r) s.flagC
  finish ((s.writeR8 r v).setFlags (v == 0) false false cout) (costOf r 2 4)

/-- BIT b on r or (HL) (R360, R361): C keeps its value. -/
def bitR8 (b : Fin 8) (r : R8) (s : State) : Result :=
  finish (s.setFlags (!(s.readR8 r).getLsbD b.val) false true s.flagC) (costOf r 2 3)

/-- RES b on r or (HL) (R362, R363). -/
def resR8 (b : Fin 8) (r : R8) (s : State) : Result :=
  finish (s.writeR8 r (s.readR8 r &&& ~~~(1#8 <<< b.val))) (costOf r 2 4)

/-- SET b on r or (HL) (R364, R365). -/
def setR8 (b : Fin 8) (r : R8) (s : State) : Result :=
  finish (s.writeR8 r (s.readR8 r ||| (1#8 <<< b.val))) (costOf r 2 4)

/-- The extended instruction of a second byte, by its fields (30_encoding.md R170): what the prefix row executes
(46_system.md R415). -/
def executeExtended (op2 : Byte) (s : State) : Result :=
  let r := R8.ofField (fieldZ op2)
  match fieldX op2 with
  | 0 => shiftR8 (ShiftOp.ofField (fieldY op2)) r s
  | 1 => bitR8 (fieldY op2) r s
  | 2 => resR8 (fieldY op2) r s
  | 3 => setR8 (fieldY op2) r s

/-! ### Control transfer (45_control.md) -/

/-- `PC <- target` (R381, R383). -/
def jumpTo (target : Word) (cost : Nat) (s : State) : Result := finish (s.setPc target) cost

/-- A jump taken when the condition holds; not taken it leaves PC at the next instruction (R382, R385). -/
def jumpIf (cc : CC) (target : Word) (taken notTaken : Nat) (s : State) : Result :=
  if s.cond cc then finish (s.setPc target) taken else finish s notTaken

/-- The target of JR: `wrap16(PC + sext_16(e8))`, PC past the instruction (30_encoding.md R173). -/
def State.relTarget (s : State) (e : Byte) : Word := s.cpu.pc + sext16 e

/-- `push16(PC); PC <- target` (R386, R391). -/
def callTo (target : Word) (cost : Nat) (s : State) : Result := finish ((s.push16 s.cpu.pc).setPc target) cost

/-- CALL cc (R387): not taken it touches neither the stack nor SP. -/
def callIf (cc : CC) (target : Word) (s : State) : Result := if s.cond cc then callTo target 6 s else finish s 3

/-- `PC <- pop16()` (R388). -/
def ret (cost : Nat) (s : State) : Result := finish (s.dropStack.setPc s.stackTop) cost

/-- RET cc (R390). -/
def retIf (cc : CC) (s : State) : Result := if s.cond cc then ret 5 s else finish s 2

end Sys2Proof.Machine
end

