-- ==== Sys2Proof/Machine/Alu16.lean ====
section
/-! DEFINITION. 16-bit arithmetic (42_alu16.md): one meaning for each row of the opcode table, over
the shared operations of Machine/Operands.lean. -/

namespace Sys2Proof.Machine

/-- INC BC (42_alu16.md R301). -/
def execIncBc (s : State) : Result := incRR .bc s

/-- ADD HL, BC (42_alu16.md R300). -/
def execAddHlBc (s : State) : Result := addHlRR .bc s

/-- DEC BC (42_alu16.md R302). -/
def execDecBc (s : State) : Result := decRR .bc s

/-- INC DE (42_alu16.md R301). -/
def execIncDe (s : State) : Result := incRR .de s

/-- ADD HL, DE (42_alu16.md R300). -/
def execAddHlDe (s : State) : Result := addHlRR .de s

/-- DEC DE (42_alu16.md R302). -/
def execDecDe (s : State) : Result := decRR .de s

/-- INC HL (42_alu16.md R301). -/
def execIncHl (s : State) : Result := incRR .hl s

/-- ADD HL, HL (42_alu16.md R300). -/
def execAddHlHl (s : State) : Result := addHlRR .hl s

/-- DEC HL (42_alu16.md R302). -/
def execDecHl (s : State) : Result := decRR .hl s

/-- INC SP (42_alu16.md R301). -/
def execIncSp (s : State) : Result := incRR .sp s

/-- ADD HL, SP (42_alu16.md R300). -/
def execAddHlSp (s : State) : Result := addHlRR .sp s

/-- DEC SP (42_alu16.md R302). -/
def execDecSp (s : State) : Result := decRR .sp s

/-- ADD SP, e8 (42_alu16.md R304). -/
def execAddSpE8 (e : Byte) (s : State) : Result :=
  let (v, h, c) := addSpE8Fun s.cpu.sp e
  finish ((s.setSp v).setFlags false false h c) 4

end Sys2Proof.Machine
end

