-- ==== Sys2Proof/Machine/Alu8.lean ====
section
/-! DEFINITION. 8-bit arithmetic and logic (41_alu8.md): one meaning for each row of the opcode table, over
the shared operations of Machine/Operands.lean. -/

namespace Sys2Proof.Machine

/-- INC B (41_alu8.md R274). -/
def execIncB (s : State) : Result := incR8 .b s

/-- DEC B (41_alu8.md R276). -/
def execDecB (s : State) : Result := decR8 .b s

/-- INC C (41_alu8.md R274). -/
def execIncC (s : State) : Result := incR8 .c s

/-- DEC C (41_alu8.md R276). -/
def execDecC (s : State) : Result := decR8 .c s

/-- INC D (41_alu8.md R274). -/
def execIncD (s : State) : Result := incR8 .d s

/-- DEC D (41_alu8.md R276). -/
def execDecD (s : State) : Result := decR8 .d s

/-- INC E (41_alu8.md R274). -/
def execIncE (s : State) : Result := incR8 .e s

/-- DEC E (41_alu8.md R276). -/
def execDecE (s : State) : Result := decR8 .e s

/-- INC H (41_alu8.md R274). -/
def execIncH (s : State) : Result := incR8 .h s

/-- DEC H (41_alu8.md R276). -/
def execDecH (s : State) : Result := decR8 .h s

/-- DAA (41_alu8.md R278). -/
def execDaa (s : State) : Result :=
  let x := daa s.cpu.a s.flagN s.flagH s.flagC
  finish ((s.setA x.r).setFlags x.z s.flagN x.h x.c) 1

/-- INC L (41_alu8.md R274). -/
def execIncL (s : State) : Result := incR8 .l s

/-- DEC L (41_alu8.md R276). -/
def execDecL (s : State) : Result := decR8 .l s

/-- CPL (41_alu8.md R279). -/
def execCpl (s : State) : Result := finish ((s.setA (~~~s.cpu.a)).setFlags s.flagZ true true s.flagC) 1

/-- INC (HL) (41_alu8.md R275). -/
def execIncAtHl (s : State) : Result := incR8 .atHl s

/-- DEC (HL) (41_alu8.md R277). -/
def execDecAtHl (s : State) : Result := decR8 .atHl s

/-- SCF (41_alu8.md R280). -/
def execScf (s : State) : Result := finish (s.setFlags s.flagZ false false true) 1

/-- INC A (41_alu8.md R274). -/
def execIncA (s : State) : Result := incR8 .a s

/-- DEC A (41_alu8.md R276). -/
def execDecA (s : State) : Result := decR8 .a s

/-- CCF (41_alu8.md R281). -/
def execCcf (s : State) : Result := finish (s.setFlags s.flagZ false false (!s.flagC)) 1

/-- ADD A, B (41_alu8.md R250). -/
def execAddAB (s : State) : Result := aluR8 .add .b s

/-- ADD A, C (41_alu8.md R250). -/
def execAddAC (s : State) : Result := aluR8 .add .c s

/-- ADD A, D (41_alu8.md R250). -/
def execAddAD (s : State) : Result := aluR8 .add .d s

/-- ADD A, E (41_alu8.md R250). -/
def execAddAE (s : State) : Result := aluR8 .add .e s

/-- ADD A, H (41_alu8.md R250). -/
def execAddAH (s : State) : Result := aluR8 .add .h s

/-- ADD A, L (41_alu8.md R250). -/
def execAddAL (s : State) : Result := aluR8 .add .l s

/-- ADD A, (HL) (41_alu8.md R251). -/
def execAddAAtHl (s : State) : Result := aluR8 .add .atHl s

/-- ADD A, A (41_alu8.md R250). -/
def execAddAA (s : State) : Result := aluR8 .add .a s

/-- ADC A, B (41_alu8.md R253). -/
def execAdcAB (s : State) : Result := aluR8 .adc .b s

/-- ADC A, C (41_alu8.md R253). -/
def execAdcAC (s : State) : Result := aluR8 .adc .c s

/-- ADC A, D (41_alu8.md R253). -/
def execAdcAD (s : State) : Result := aluR8 .adc .d s

/-- ADC A, E (41_alu8.md R253). -/
def execAdcAE (s : State) : Result := aluR8 .adc .e s

/-- ADC A, H (41_alu8.md R253). -/
def execAdcAH (s : State) : Result := aluR8 .adc .h s

/-- ADC A, L (41_alu8.md R253). -/
def execAdcAL (s : State) : Result := aluR8 .adc .l s

/-- ADC A, (HL) (41_alu8.md R254). -/
def execAdcAAtHl (s : State) : Result := aluR8 .adc .atHl s

/-- ADC A, A (41_alu8.md R253). -/
def execAdcAA (s : State) : Result := aluR8 .adc .a s

/-- SUB B (41_alu8.md R256). -/
def execSubB (s : State) : Result := aluR8 .sub .b s

/-- SUB C (41_alu8.md R256). -/
def execSubC (s : State) : Result := aluR8 .sub .c s

/-- SUB D (41_alu8.md R256). -/
def execSubD (s : State) : Result := aluR8 .sub .d s

/-- SUB E (41_alu8.md R256). -/
def execSubE (s : State) : Result := aluR8 .sub .e s

/-- SUB H (41_alu8.md R256). -/
def execSubH (s : State) : Result := aluR8 .sub .h s

/-- SUB L (41_alu8.md R256). -/
def execSubL (s : State) : Result := aluR8 .sub .l s

/-- SUB (HL) (41_alu8.md R257). -/
def execSubAtHl (s : State) : Result := aluR8 .sub .atHl s

/-- SUB A (41_alu8.md R256). -/
def execSubA (s : State) : Result := aluR8 .sub .a s

/-- SBC A, B (41_alu8.md R259). -/
def execSbcAB (s : State) : Result := aluR8 .sbc .b s

/-- SBC A, C (41_alu8.md R259). -/
def execSbcAC (s : State) : Result := aluR8 .sbc .c s

/-- SBC A, D (41_alu8.md R259). -/
def execSbcAD (s : State) : Result := aluR8 .sbc .d s

/-- SBC A, E (41_alu8.md R259). -/
def execSbcAE (s : State) : Result := aluR8 .sbc .e s

/-- SBC A, H (41_alu8.md R259). -/
def execSbcAH (s : State) : Result := aluR8 .sbc .h s

/-- SBC A, L (41_alu8.md R259). -/
def execSbcAL (s : State) : Result := aluR8 .sbc .l s

/-- SBC A, (HL) (41_alu8.md R260). -/
def execSbcAAtHl (s : State) : Result := aluR8 .sbc .atHl s

/-- SBC A, A (41_alu8.md R259). -/
def execSbcAA (s : State) : Result := aluR8 .sbc .a s

/-- AND B (41_alu8.md R262). -/
def execAndB (s : State) : Result := aluR8 .and .b s

/-- AND C (41_alu8.md R262). -/
def execAndC (s : State) : Result := aluR8 .and .c s

/-- AND D (41_alu8.md R262). -/
def execAndD (s : State) : Result := aluR8 .and .d s

/-- AND E (41_alu8.md R262). -/
def execAndE (s : State) : Result := aluR8 .and .e s

/-- AND H (41_alu8.md R262). -/
def execAndH (s : State) : Result := aluR8 .and .h s

/-- AND L (41_alu8.md R262). -/
def execAndL (s : State) : Result := aluR8 .and .l s

/-- AND (HL) (41_alu8.md R263). -/
def execAndAtHl (s : State) : Result := aluR8 .and .atHl s

/-- AND A (41_alu8.md R262). -/
def execAndA (s : State) : Result := aluR8 .and .a s

/-- XOR B (41_alu8.md R265). -/
def execXorB (s : State) : Result := aluR8 .xor .b s

/-- XOR C (41_alu8.md R265). -/
def execXorC (s : State) : Result := aluR8 .xor .c s

/-- XOR D (41_alu8.md R265). -/
def execXorD (s : State) : Result := aluR8 .xor .d s

/-- XOR E (41_alu8.md R265). -/
def execXorE (s : State) : Result := aluR8 .xor .e s

/-- XOR H (41_alu8.md R265). -/
def execXorH (s : State) : Result := aluR8 .xor .h s

/-- XOR L (41_alu8.md R265). -/
def execXorL (s : State) : Result := aluR8 .xor .l s

/-- XOR (HL) (41_alu8.md R266). -/
def execXorAtHl (s : State) : Result := aluR8 .xor .atHl s

/-- XOR A (41_alu8.md R265). -/
def execXorA (s : State) : Result := aluR8 .xor .a s

/-- OR B (41_alu8.md R268). -/
def execOrB (s : State) : Result := aluR8 .or .b s

/-- OR C (41_alu8.md R268). -/
def execOrC (s : State) : Result := aluR8 .or .c s

/-- OR D (41_alu8.md R268). -/
def execOrD (s : State) : Result := aluR8 .or .d s

/-- OR E (41_alu8.md R268). -/
def execOrE (s : State) : Result := aluR8 .or .e s

/-- OR H (41_alu8.md R268). -/
def execOrH (s : State) : Result := aluR8 .or .h s

/-- OR L (41_alu8.md R268). -/
def execOrL (s : State) : Result := aluR8 .or .l s

/-- OR (HL) (41_alu8.md R269). -/
def execOrAtHl (s : State) : Result := aluR8 .or .atHl s

/-- OR A (41_alu8.md R268). -/
def execOrA (s : State) : Result := aluR8 .or .a s

/-- CP B (41_alu8.md R271). -/
def execCpB (s : State) : Result := aluR8 .cp .b s

/-- CP C (41_alu8.md R271). -/
def execCpC (s : State) : Result := aluR8 .cp .c s

/-- CP D (41_alu8.md R271). -/
def execCpD (s : State) : Result := aluR8 .cp .d s

/-- CP E (41_alu8.md R271). -/
def execCpE (s : State) : Result := aluR8 .cp .e s

/-- CP H (41_alu8.md R271). -/
def execCpH (s : State) : Result := aluR8 .cp .h s

/-- CP L (41_alu8.md R271). -/
def execCpL (s : State) : Result := aluR8 .cp .l s

/-- CP (HL) (41_alu8.md R272). -/
def execCpAtHl (s : State) : Result := aluR8 .cp .atHl s

/-- CP A (41_alu8.md R271). -/
def execCpA (s : State) : Result := aluR8 .cp .a s

/-- ADD A, n8 (41_alu8.md R252). -/
def execAddAN8 (n : Byte) (s : State) : Result := aluImm .add n s

/-- ADC A, n8 (41_alu8.md R255). -/
def execAdcAN8 (n : Byte) (s : State) : Result := aluImm .adc n s

/-- SUB n8 (41_alu8.md R258). -/
def execSubN8 (n : Byte) (s : State) : Result := aluImm .sub n s

/-- SBC A, n8 (41_alu8.md R261). -/
def execSbcAN8 (n : Byte) (s : State) : Result := aluImm .sbc n s

/-- AND n8 (41_alu8.md R264). -/
def execAndN8 (n : Byte) (s : State) : Result := aluImm .and n s

/-- XOR n8 (41_alu8.md R267). -/
def execXorN8 (n : Byte) (s : State) : Result := aluImm .xor n s

/-- OR n8 (41_alu8.md R270). -/
def execOrN8 (n : Byte) (s : State) : Result := aluImm .or n s

/-- CP n8 (41_alu8.md R273). -/
def execCpN8 (n : Byte) (s : State) : Result := aluImm .cp n s

end Sys2Proof.Machine
end

