-- ==== Sys2Proof/Machine/Bit.lean ====
section
/-! DEFINITION. Single-bit instructions (44_bit.md): one meaning for each row of the opcode table, over
the shared operations of Machine/Operands.lean. -/

namespace Sys2Proof.Machine

/-- BIT 0, B (44_bit.md R360). -/
def execBit0B (s : State) : Result := bitR8 0 .b s

/-- BIT 0, C (44_bit.md R360). -/
def execBit0C (s : State) : Result := bitR8 0 .c s

/-- BIT 0, D (44_bit.md R360). -/
def execBit0D (s : State) : Result := bitR8 0 .d s

/-- BIT 0, E (44_bit.md R360). -/
def execBit0E (s : State) : Result := bitR8 0 .e s

/-- BIT 0, H (44_bit.md R360). -/
def execBit0H (s : State) : Result := bitR8 0 .h s

/-- BIT 0, L (44_bit.md R360). -/
def execBit0L (s : State) : Result := bitR8 0 .l s

/-- BIT 0, (HL) (44_bit.md R361). -/
def execBit0AtHl (s : State) : Result := bitR8 0 .atHl s

/-- BIT 0, A (44_bit.md R360). -/
def execBit0A (s : State) : Result := bitR8 0 .a s

/-- BIT 1, B (44_bit.md R360). -/
def execBit1B (s : State) : Result := bitR8 1 .b s

/-- BIT 1, C (44_bit.md R360). -/
def execBit1C (s : State) : Result := bitR8 1 .c s

/-- BIT 1, D (44_bit.md R360). -/
def execBit1D (s : State) : Result := bitR8 1 .d s

/-- BIT 1, E (44_bit.md R360). -/
def execBit1E (s : State) : Result := bitR8 1 .e s

/-- BIT 1, H (44_bit.md R360). -/
def execBit1H (s : State) : Result := bitR8 1 .h s

/-- BIT 1, L (44_bit.md R360). -/
def execBit1L (s : State) : Result := bitR8 1 .l s

/-- BIT 1, (HL) (44_bit.md R361). -/
def execBit1AtHl (s : State) : Result := bitR8 1 .atHl s

/-- BIT 1, A (44_bit.md R360). -/
def execBit1A (s : State) : Result := bitR8 1 .a s

/-- BIT 2, B (44_bit.md R360). -/
def execBit2B (s : State) : Result := bitR8 2 .b s

/-- BIT 2, C (44_bit.md R360). -/
def execBit2C (s : State) : Result := bitR8 2 .c s

/-- BIT 2, D (44_bit.md R360). -/
def execBit2D (s : State) : Result := bitR8 2 .d s

/-- BIT 2, E (44_bit.md R360). -/
def execBit2E (s : State) : Result := bitR8 2 .e s

/-- BIT 2, H (44_bit.md R360). -/
def execBit2H (s : State) : Result := bitR8 2 .h s

/-- BIT 2, L (44_bit.md R360). -/
def execBit2L (s : State) : Result := bitR8 2 .l s

/-- BIT 2, (HL) (44_bit.md R361). -/
def execBit2AtHl (s : State) : Result := bitR8 2 .atHl s

/-- BIT 2, A (44_bit.md R360). -/
def execBit2A (s : State) : Result := bitR8 2 .a s

/-- BIT 3, B (44_bit.md R360). -/
def execBit3B (s : State) : Result := bitR8 3 .b s

/-- BIT 3, C (44_bit.md R360). -/
def execBit3C (s : State) : Result := bitR8 3 .c s

/-- BIT 3, D (44_bit.md R360). -/
def execBit3D (s : State) : Result := bitR8 3 .d s

/-- BIT 3, E (44_bit.md R360). -/
def execBit3E (s : State) : Result := bitR8 3 .e s

/-- BIT 3, H (44_bit.md R360). -/
def execBit3H (s : State) : Result := bitR8 3 .h s

/-- BIT 3, L (44_bit.md R360). -/
def execBit3L (s : State) : Result := bitR8 3 .l s

/-- BIT 3, (HL) (44_bit.md R361). -/
def execBit3AtHl (s : State) : Result := bitR8 3 .atHl s

/-- BIT 3, A (44_bit.md R360). -/
def execBit3A (s : State) : Result := bitR8 3 .a s

/-- BIT 4, B (44_bit.md R360). -/
def execBit4B (s : State) : Result := bitR8 4 .b s

/-- BIT 4, C (44_bit.md R360). -/
def execBit4C (s : State) : Result := bitR8 4 .c s

/-- BIT 4, D (44_bit.md R360). -/
def execBit4D (s : State) : Result := bitR8 4 .d s

/-- BIT 4, E (44_bit.md R360). -/
def execBit4E (s : State) : Result := bitR8 4 .e s

/-- BIT 4, H (44_bit.md R360). -/
def execBit4H (s : State) : Result := bitR8 4 .h s

/-- BIT 4, L (44_bit.md R360). -/
def execBit4L (s : State) : Result := bitR8 4 .l s

/-- BIT 4, (HL) (44_bit.md R361). -/
def execBit4AtHl (s : State) : Result := bitR8 4 .atHl s

/-- BIT 4, A (44_bit.md R360). -/
def execBit4A (s : State) : Result := bitR8 4 .a s

/-- BIT 5, B (44_bit.md R360). -/
def execBit5B (s : State) : Result := bitR8 5 .b s

/-- BIT 5, C (44_bit.md R360). -/
def execBit5C (s : State) : Result := bitR8 5 .c s

/-- BIT 5, D (44_bit.md R360). -/
def execBit5D (s : State) : Result := bitR8 5 .d s

/-- BIT 5, E (44_bit.md R360). -/
def execBit5E (s : State) : Result := bitR8 5 .e s

/-- BIT 5, H (44_bit.md R360). -/
def execBit5H (s : State) : Result := bitR8 5 .h s

/-- BIT 5, L (44_bit.md R360). -/
def execBit5L (s : State) : Result := bitR8 5 .l s

/-- BIT 5, (HL) (44_bit.md R361). -/
def execBit5AtHl (s : State) : Result := bitR8 5 .atHl s

/-- BIT 5, A (44_bit.md R360). -/
def execBit5A (s : State) : Result := bitR8 5 .a s

/-- BIT 6, B (44_bit.md R360). -/
def execBit6B (s : State) : Result := bitR8 6 .b s

/-- BIT 6, C (44_bit.md R360). -/
def execBit6C (s : State) : Result := bitR8 6 .c s

/-- BIT 6, D (44_bit.md R360). -/
def execBit6D (s : State) : Result := bitR8 6 .d s

/-- BIT 6, E (44_bit.md R360). -/
def execBit6E (s : State) : Result := bitR8 6 .e s

/-- BIT 6, H (44_bit.md R360). -/
def execBit6H (s : State) : Result := bitR8 6 .h s

/-- BIT 6, L (44_bit.md R360). -/
def execBit6L (s : State) : Result := bitR8 6 .l s

/-- BIT 6, (HL) (44_bit.md R361). -/
def execBit6AtHl (s : State) : Result := bitR8 6 .atHl s

/-- BIT 6, A (44_bit.md R360). -/
def execBit6A (s : State) : Result := bitR8 6 .a s

/-- BIT 7, B (44_bit.md R360). -/
def execBit7B (s : State) : Result := bitR8 7 .b s

/-- BIT 7, C (44_bit.md R360). -/
def execBit7C (s : State) : Result := bitR8 7 .c s

/-- BIT 7, D (44_bit.md R360). -/
def execBit7D (s : State) : Result := bitR8 7 .d s

/-- BIT 7, E (44_bit.md R360). -/
def execBit7E (s : State) : Result := bitR8 7 .e s

/-- BIT 7, H (44_bit.md R360). -/
def execBit7H (s : State) : Result := bitR8 7 .h s

/-- BIT 7, L (44_bit.md R360). -/
def execBit7L (s : State) : Result := bitR8 7 .l s

/-- BIT 7, (HL) (44_bit.md R361). -/
def execBit7AtHl (s : State) : Result := bitR8 7 .atHl s

/-- BIT 7, A (44_bit.md R360). -/
def execBit7A (s : State) : Result := bitR8 7 .a s

/-- RES 0, B (44_bit.md R362). -/
def execRes0B (s : State) : Result := resR8 0 .b s

/-- RES 0, C (44_bit.md R362). -/
def execRes0C (s : State) : Result := resR8 0 .c s

/-- RES 0, D (44_bit.md R362). -/
def execRes0D (s : State) : Result := resR8 0 .d s

/-- RES 0, E (44_bit.md R362). -/
def execRes0E (s : State) : Result := resR8 0 .e s

/-- RES 0, H (44_bit.md R362). -/
def execRes0H (s : State) : Result := resR8 0 .h s

/-- RES 0, L (44_bit.md R362). -/
def execRes0L (s : State) : Result := resR8 0 .l s

/-- RES 0, (HL) (44_bit.md R363). -/
def execRes0AtHl (s : State) : Result := resR8 0 .atHl s

/-- RES 0, A (44_bit.md R362). -/
def execRes0A (s : State) : Result := resR8 0 .a s

/-- RES 1, B (44_bit.md R362). -/
def execRes1B (s : State) : Result := resR8 1 .b s

/-- RES 1, C (44_bit.md R362). -/
def execRes1C (s : State) : Result := resR8 1 .c s

/-- RES 1, D (44_bit.md R362). -/
def execRes1D (s : State) : Result := resR8 1 .d s

/-- RES 1, E (44_bit.md R362). -/
def execRes1E (s : State) : Result := resR8 1 .e s

/-- RES 1, H (44_bit.md R362). -/
def execRes1H (s : State) : Result := resR8 1 .h s

/-- RES 1, L (44_bit.md R362). -/
def execRes1L (s : State) : Result := resR8 1 .l s

/-- RES 1, (HL) (44_bit.md R363). -/
def execRes1AtHl (s : State) : Result := resR8 1 .atHl s

/-- RES 1, A (44_bit.md R362). -/
def execRes1A (s : State) : Result := resR8 1 .a s

/-- RES 2, B (44_bit.md R362). -/
def execRes2B (s : State) : Result := resR8 2 .b s

/-- RES 2, C (44_bit.md R362). -/
def execRes2C (s : State) : Result := resR8 2 .c s

/-- RES 2, D (44_bit.md R362). -/
def execRes2D (s : State) : Result := resR8 2 .d s

/-- RES 2, E (44_bit.md R362). -/
def execRes2E (s : State) : Result := resR8 2 .e s

/-- RES 2, H (44_bit.md R362). -/
def execRes2H (s : State) : Result := resR8 2 .h s

/-- RES 2, L (44_bit.md R362). -/
def execRes2L (s : State) : Result := resR8 2 .l s

/-- RES 2, (HL) (44_bit.md R363). -/
def execRes2AtHl (s : State) : Result := resR8 2 .atHl s

/-- RES 2, A (44_bit.md R362). -/
def execRes2A (s : State) : Result := resR8 2 .a s

/-- RES 3, B (44_bit.md R362). -/
def execRes3B (s : State) : Result := resR8 3 .b s

/-- RES 3, C (44_bit.md R362). -/
def execRes3C (s : State) : Result := resR8 3 .c s

/-- RES 3, D (44_bit.md R362). -/
def execRes3D (s : State) : Result := resR8 3 .d s

/-- RES 3, E (44_bit.md R362). -/
def execRes3E (s : State) : Result := resR8 3 .e s

/-- RES 3, H (44_bit.md R362). -/
def execRes3H (s : State) : Result := resR8 3 .h s

/-- RES 3, L (44_bit.md R362). -/
def execRes3L (s : State) : Result := resR8 3 .l s

/-- RES 3, (HL) (44_bit.md R363). -/
def execRes3AtHl (s : State) : Result := resR8 3 .atHl s

/-- RES 3, A (44_bit.md R362). -/
def execRes3A (s : State) : Result := resR8 3 .a s

/-- RES 4, B (44_bit.md R362). -/
def execRes4B (s : State) : Result := resR8 4 .b s

/-- RES 4, C (44_bit.md R362). -/
def execRes4C (s : State) : Result := resR8 4 .c s

/-- RES 4, D (44_bit.md R362). -/
def execRes4D (s : State) : Result := resR8 4 .d s

/-- RES 4, E (44_bit.md R362). -/
def execRes4E (s : State) : Result := resR8 4 .e s

/-- RES 4, H (44_bit.md R362). -/
def execRes4H (s : State) : Result := resR8 4 .h s

/-- RES 4, L (44_bit.md R362). -/
def execRes4L (s : State) : Result := resR8 4 .l s

/-- RES 4, (HL) (44_bit.md R363). -/
def execRes4AtHl (s : State) : Result := resR8 4 .atHl s

/-- RES 4, A (44_bit.md R362). -/
def execRes4A (s : State) : Result := resR8 4 .a s

/-- RES 5, B (44_bit.md R362). -/
def execRes5B (s : State) : Result := resR8 5 .b s

/-- RES 5, C (44_bit.md R362). -/
def execRes5C (s : State) : Result := resR8 5 .c s

/-- RES 5, D (44_bit.md R362). -/
def execRes5D (s : State) : Result := resR8 5 .d s

/-- RES 5, E (44_bit.md R362). -/
def execRes5E (s : State) : Result := resR8 5 .e s

/-- RES 5, H (44_bit.md R362). -/
def execRes5H (s : State) : Result := resR8 5 .h s

/-- RES 5, L (44_bit.md R362). -/
def execRes5L (s : State) : Result := resR8 5 .l s

/-- RES 5, (HL) (44_bit.md R363). -/
def execRes5AtHl (s : State) : Result := resR8 5 .atHl s

/-- RES 5, A (44_bit.md R362). -/
def execRes5A (s : State) : Result := resR8 5 .a s

/-- RES 6, B (44_bit.md R362). -/
def execRes6B (s : State) : Result := resR8 6 .b s

/-- RES 6, C (44_bit.md R362). -/
def execRes6C (s : State) : Result := resR8 6 .c s

/-- RES 6, D (44_bit.md R362). -/
def execRes6D (s : State) : Result := resR8 6 .d s

/-- RES 6, E (44_bit.md R362). -/
def execRes6E (s : State) : Result := resR8 6 .e s

/-- RES 6, H (44_bit.md R362). -/
def execRes6H (s : State) : Result := resR8 6 .h s

/-- RES 6, L (44_bit.md R362). -/
def execRes6L (s : State) : Result := resR8 6 .l s

/-- RES 6, (HL) (44_bit.md R363). -/
def execRes6AtHl (s : State) : Result := resR8 6 .atHl s

/-- RES 6, A (44_bit.md R362). -/
def execRes6A (s : State) : Result := resR8 6 .a s

/-- RES 7, B (44_bit.md R362). -/
def execRes7B (s : State) : Result := resR8 7 .b s

/-- RES 7, C (44_bit.md R362). -/
def execRes7C (s : State) : Result := resR8 7 .c s

/-- RES 7, D (44_bit.md R362). -/
def execRes7D (s : State) : Result := resR8 7 .d s

/-- RES 7, E (44_bit.md R362). -/
def execRes7E (s : State) : Result := resR8 7 .e s

/-- RES 7, H (44_bit.md R362). -/
def execRes7H (s : State) : Result := resR8 7 .h s

/-- RES 7, L (44_bit.md R362). -/
def execRes7L (s : State) : Result := resR8 7 .l s

/-- RES 7, (HL) (44_bit.md R363). -/
def execRes7AtHl (s : State) : Result := resR8 7 .atHl s

/-- RES 7, A (44_bit.md R362). -/
def execRes7A (s : State) : Result := resR8 7 .a s

/-- SET 0, B (44_bit.md R364). -/
def execSet0B (s : State) : Result := setR8 0 .b s

/-- SET 0, C (44_bit.md R364). -/
def execSet0C (s : State) : Result := setR8 0 .c s

/-- SET 0, D (44_bit.md R364). -/
def execSet0D (s : State) : Result := setR8 0 .d s

/-- SET 0, E (44_bit.md R364). -/
def execSet0E (s : State) : Result := setR8 0 .e s

/-- SET 0, H (44_bit.md R364). -/
def execSet0H (s : State) : Result := setR8 0 .h s

/-- SET 0, L (44_bit.md R364). -/
def execSet0L (s : State) : Result := setR8 0 .l s

/-- SET 0, (HL) (44_bit.md R365). -/
def execSet0AtHl (s : State) : Result := setR8 0 .atHl s

/-- SET 0, A (44_bit.md R364). -/
def execSet0A (s : State) : Result := setR8 0 .a s

/-- SET 1, B (44_bit.md R364). -/
def execSet1B (s : State) : Result := setR8 1 .b s

/-- SET 1, C (44_bit.md R364). -/
def execSet1C (s : State) : Result := setR8 1 .c s

/-- SET 1, D (44_bit.md R364). -/
def execSet1D (s : State) : Result := setR8 1 .d s

/-- SET 1, E (44_bit.md R364). -/
def execSet1E (s : State) : Result := setR8 1 .e s

/-- SET 1, H (44_bit.md R364). -/
def execSet1H (s : State) : Result := setR8 1 .h s

/-- SET 1, L (44_bit.md R364). -/
def execSet1L (s : State) : Result := setR8 1 .l s

/-- SET 1, (HL) (44_bit.md R365). -/
def execSet1AtHl (s : State) : Result := setR8 1 .atHl s

/-- SET 1, A (44_bit.md R364). -/
def execSet1A (s : State) : Result := setR8 1 .a s

/-- SET 2, B (44_bit.md R364). -/
def execSet2B (s : State) : Result := setR8 2 .b s

/-- SET 2, C (44_bit.md R364). -/
def execSet2C (s : State) : Result := setR8 2 .c s

/-- SET 2, D (44_bit.md R364). -/
def execSet2D (s : State) : Result := setR8 2 .d s

/-- SET 2, E (44_bit.md R364). -/
def execSet2E (s : State) : Result := setR8 2 .e s

/-- SET 2, H (44_bit.md R364). -/
def execSet2H (s : State) : Result := setR8 2 .h s

/-- SET 2, L (44_bit.md R364). -/
def execSet2L (s : State) : Result := setR8 2 .l s

/-- SET 2, (HL) (44_bit.md R365). -/
def execSet2AtHl (s : State) : Result := setR8 2 .atHl s

/-- SET 2, A (44_bit.md R364). -/
def execSet2A (s : State) : Result := setR8 2 .a s

/-- SET 3, B (44_bit.md R364). -/
def execSet3B (s : State) : Result := setR8 3 .b s

/-- SET 3, C (44_bit.md R364). -/
def execSet3C (s : State) : Result := setR8 3 .c s

/-- SET 3, D (44_bit.md R364). -/
def execSet3D (s : State) : Result := setR8 3 .d s

/-- SET 3, E (44_bit.md R364). -/
def execSet3E (s : State) : Result := setR8 3 .e s

/-- SET 3, H (44_bit.md R364). -/
def execSet3H (s : State) : Result := setR8 3 .h s

/-- SET 3, L (44_bit.md R364). -/
def execSet3L (s : State) : Result := setR8 3 .l s

/-- SET 3, (HL) (44_bit.md R365). -/
def execSet3AtHl (s : State) : Result := setR8 3 .atHl s

/-- SET 3, A (44_bit.md R364). -/
def execSet3A (s : State) : Result := setR8 3 .a s

/-- SET 4, B (44_bit.md R364). -/
def execSet4B (s : State) : Result := setR8 4 .b s

/-- SET 4, C (44_bit.md R364). -/
def execSet4C (s : State) : Result := setR8 4 .c s

/-- SET 4, D (44_bit.md R364). -/
def execSet4D (s : State) : Result := setR8 4 .d s

/-- SET 4, E (44_bit.md R364). -/
def execSet4E (s : State) : Result := setR8 4 .e s

/-- SET 4, H (44_bit.md R364). -/
def execSet4H (s : State) : Result := setR8 4 .h s

/-- SET 4, L (44_bit.md R364). -/
def execSet4L (s : State) : Result := setR8 4 .l s

/-- SET 4, (HL) (44_bit.md R365). -/
def execSet4AtHl (s : State) : Result := setR8 4 .atHl s

/-- SET 4, A (44_bit.md R364). -/
def execSet4A (s : State) : Result := setR8 4 .a s

/-- SET 5, B (44_bit.md R364). -/
def execSet5B (s : State) : Result := setR8 5 .b s

/-- SET 5, C (44_bit.md R364). -/
def execSet5C (s : State) : Result := setR8 5 .c s

/-- SET 5, D (44_bit.md R364). -/
def execSet5D (s : State) : Result := setR8 5 .d s

/-- SET 5, E (44_bit.md R364). -/
def execSet5E (s : State) : Result := setR8 5 .e s

/-- SET 5, H (44_bit.md R364). -/
def execSet5H (s : State) : Result := setR8 5 .h s

/-- SET 5, L (44_bit.md R364). -/
def execSet5L (s : State) : Result := setR8 5 .l s

/-- SET 5, (HL) (44_bit.md R365). -/
def execSet5AtHl (s : State) : Result := setR8 5 .atHl s

/-- SET 5, A (44_bit.md R364). -/
def execSet5A (s : State) : Result := setR8 5 .a s

/-- SET 6, B (44_bit.md R364). -/
def execSet6B (s : State) : Result := setR8 6 .b s

/-- SET 6, C (44_bit.md R364). -/
def execSet6C (s : State) : Result := setR8 6 .c s

/-- SET 6, D (44_bit.md R364). -/
def execSet6D (s : State) : Result := setR8 6 .d s

/-- SET 6, E (44_bit.md R364). -/
def execSet6E (s : State) : Result := setR8 6 .e s

/-- SET 6, H (44_bit.md R364). -/
def execSet6H (s : State) : Result := setR8 6 .h s

/-- SET 6, L (44_bit.md R364). -/
def execSet6L (s : State) : Result := setR8 6 .l s

/-- SET 6, (HL) (44_bit.md R365). -/
def execSet6AtHl (s : State) : Result := setR8 6 .atHl s

/-- SET 6, A (44_bit.md R364). -/
def execSet6A (s : State) : Result := setR8 6 .a s

/-- SET 7, B (44_bit.md R364). -/
def execSet7B (s : State) : Result := setR8 7 .b s

/-- SET 7, C (44_bit.md R364). -/
def execSet7C (s : State) : Result := setR8 7 .c s

/-- SET 7, D (44_bit.md R364). -/
def execSet7D (s : State) : Result := setR8 7 .d s

/-- SET 7, E (44_bit.md R364). -/
def execSet7E (s : State) : Result := setR8 7 .e s

/-- SET 7, H (44_bit.md R364). -/
def execSet7H (s : State) : Result := setR8 7 .h s

/-- SET 7, L (44_bit.md R364). -/
def execSet7L (s : State) : Result := setR8 7 .l s

/-- SET 7, (HL) (44_bit.md R365). -/
def execSet7AtHl (s : State) : Result := setR8 7 .atHl s

/-- SET 7, A (44_bit.md R364). -/
def execSet7A (s : State) : Result := setR8 7 .a s

end Sys2Proof.Machine
end

