-- ==== Sys2Proof/Machine/Control.lean ====
section
/-! DEFINITION. Jumps, calls, returns and restarts (45_control.md): one meaning for each row of the opcode table, over
the shared operations of Machine/Operands.lean. -/

namespace Sys2Proof.Machine

/-- JR e8 (45_control.md R384). -/
def execJrE8 (e : Byte) (s : State) : Result := jumpTo (s.relTarget e) 3 s

/-- JR NZ, e8 (45_control.md R385). -/
def execJrNzE8 (e : Byte) (s : State) : Result := jumpIf .nz (s.relTarget e) 3 2 s

/-- JR Z, e8 (45_control.md R385). -/
def execJrZE8 (e : Byte) (s : State) : Result := jumpIf .z (s.relTarget e) 3 2 s

/-- JR NC, e8 (45_control.md R385). -/
def execJrNcE8 (e : Byte) (s : State) : Result := jumpIf .nc (s.relTarget e) 3 2 s

/-- JR C, e8 (45_control.md R385). -/
def execJrCE8 (e : Byte) (s : State) : Result := jumpIf .c (s.relTarget e) 3 2 s

/-- RET NZ (45_control.md R390). -/
def execRetNz (s : State) : Result := retIf .nz s

/-- JP NZ, a16 (45_control.md R382). -/
def execJpNzA16 (a : Word) (s : State) : Result := jumpIf .nz a 4 3 s

/-- JP a16 (45_control.md R381). -/
def execJpA16 (a : Word) (s : State) : Result := jumpTo a 4 s

/-- CALL NZ, a16 (45_control.md R387). -/
def execCallNzA16 (a : Word) (s : State) : Result := callIf .nz a s

/-- RST 0x00 (45_control.md R391). -/
def execRst00 (s : State) : Result := callTo 0x00 4 s

/-- RET Z (45_control.md R390). -/
def execRetZ (s : State) : Result := retIf .z s

/-- RET (45_control.md R388). -/
def execRet (s : State) : Result := ret 4 s

/-- JP Z, a16 (45_control.md R382). -/
def execJpZA16 (a : Word) (s : State) : Result := jumpIf .z a 4 3 s

/-- CALL Z, a16 (45_control.md R387). -/
def execCallZA16 (a : Word) (s : State) : Result := callIf .z a s

/-- CALL a16 (45_control.md R386). -/
def execCallA16 (a : Word) (s : State) : Result := callTo a 6 s

/-- RST 0x08 (45_control.md R391). -/
def execRst08 (s : State) : Result := callTo 0x08 4 s

/-- RET NC (45_control.md R390). -/
def execRetNc (s : State) : Result := retIf .nc s

/-- JP NC, a16 (45_control.md R382). -/
def execJpNcA16 (a : Word) (s : State) : Result := jumpIf .nc a 4 3 s

/-- CALL NC, a16 (45_control.md R387). -/
def execCallNcA16 (a : Word) (s : State) : Result := callIf .nc a s

/-- RST 0x10 (45_control.md R391). -/
def execRst10 (s : State) : Result := callTo 0x10 4 s

/-- RET C (45_control.md R390). -/
def execRetC (s : State) : Result := retIf .c s

/-- RETI (45_control.md R389). -/
def execReti (s : State) : Result := finish s.returnFromInterrupt 4

/-- JP C, a16 (45_control.md R382). -/
def execJpCA16 (a : Word) (s : State) : Result := jumpIf .c a 4 3 s

/-- CALL C, a16 (45_control.md R387). -/
def execCallCA16 (a : Word) (s : State) : Result := callIf .c a s

/-- RST 0x18 (45_control.md R391). -/
def execRst18 (s : State) : Result := callTo 0x18 4 s

/-- RST 0x20 (45_control.md R391). -/
def execRst20 (s : State) : Result := callTo 0x20 4 s

/-- JP HL (45_control.md R383). -/
def execJpHl (s : State) : Result := jumpTo s.hl 1 s

/-- RST 0x28 (45_control.md R391). -/
def execRst28 (s : State) : Result := callTo 0x28 4 s

/-- RST 0x30 (45_control.md R391). -/
def execRst30 (s : State) : Result := callTo 0x30 4 s

/-- RST 0x38 (45_control.md R391). -/
def execRst38 (s : State) : Result := callTo 0x38 4 s

end Sys2Proof.Machine
end

