-- ==== Sys2Proof/Machine/Load.lean ====
section
/-! DEFINITION. Load, store and stack instructions (40_load.md): one meaning for each row of the opcode table, over
the shared operations of Machine/Operands.lean. -/

namespace Sys2Proof.Machine

/-- LD BC, n16 (40_load.md R220). -/
def execLdBcN16 (n : Word) (s : State) : Result := loadRRImm .bc n s

/-- LD (BC), A (40_load.md R207). -/
def execLdAtBcA (s : State) : Result := storeAInd .bc s

/-- LD B, n8 (40_load.md R201). -/
def execLdBN8 (n : Byte) (s : State) : Result := loadR8Imm .b n 2 s

/-- LD (a16), SP (40_load.md R221). -/
def execLdAtA16Sp (a : Word) (s : State) : Result := finish (s.busWrite16 a s.cpu.sp) 5

/-- LD A, (BC) (40_load.md R205). -/
def execLdAAtBc (s : State) : Result := loadAInd .bc s

/-- LD C, n8 (40_load.md R201). -/
def execLdCN8 (n : Byte) (s : State) : Result := loadR8Imm .c n 2 s

/-- LD DE, n16 (40_load.md R220). -/
def execLdDeN16 (n : Word) (s : State) : Result := loadRRImm .de n s

/-- LD (DE), A (40_load.md R208). -/
def execLdAtDeA (s : State) : Result := storeAInd .de s

/-- LD D, n8 (40_load.md R201). -/
def execLdDN8 (n : Byte) (s : State) : Result := loadR8Imm .d n 2 s

/-- LD A, (DE) (40_load.md R206). -/
def execLdAAtDe (s : State) : Result := loadAInd .de s

/-- LD E, n8 (40_load.md R201). -/
def execLdEN8 (n : Byte) (s : State) : Result := loadR8Imm .e n 2 s

/-- LD HL, n16 (40_load.md R220). -/
def execLdHlN16 (n : Word) (s : State) : Result := loadRRImm .hl n s

/-- LD (HL+), A (40_load.md R211). -/
def execLdAtHlIncA (s : State) : Result := storeAInd .hlInc s

/-- LD H, n8 (40_load.md R201). -/
def execLdHN8 (n : Byte) (s : State) : Result := loadR8Imm .h n 2 s

/-- LD A, (HL+) (40_load.md R209). -/
def execLdAAtHlInc (s : State) : Result := loadAInd .hlInc s

/-- LD L, n8 (40_load.md R201). -/
def execLdLN8 (n : Byte) (s : State) : Result := loadR8Imm .l n 2 s

/-- LD SP, n16 (40_load.md R220). -/
def execLdSpN16 (n : Word) (s : State) : Result := loadRRImm .sp n s

/-- LD (HL-), A (40_load.md R212). -/
def execLdAtHlDecA (s : State) : Result := storeAInd .hlDec s

/-- LD (HL), n8 (40_load.md R204). -/
def execLdAtHlN8 (n : Byte) (s : State) : Result := loadR8Imm .atHl n 3 s

/-- LD A, (HL-) (40_load.md R210). -/
def execLdAAtHlDec (s : State) : Result := loadAInd .hlDec s

/-- LD A, n8 (40_load.md R201). -/
def execLdAN8 (n : Byte) (s : State) : Result := loadR8Imm .a n 2 s

/-- LD B, B (40_load.md R200). -/
def execLdBB (s : State) : Result := loadR8R8 .b .b 1 s

/-- LD B, C (40_load.md R200). -/
def execLdBC (s : State) : Result := loadR8R8 .b .c 1 s

/-- LD B, D (40_load.md R200). -/
def execLdBD (s : State) : Result := loadR8R8 .b .d 1 s

/-- LD B, E (40_load.md R200). -/
def execLdBE (s : State) : Result := loadR8R8 .b .e 1 s

/-- LD B, H (40_load.md R200). -/
def execLdBH (s : State) : Result := loadR8R8 .b .h 1 s

/-- LD B, L (40_load.md R200). -/
def execLdBL (s : State) : Result := loadR8R8 .b .l 1 s

/-- LD B, (HL) (40_load.md R202). -/
def execLdBAtHl (s : State) : Result := loadR8R8 .b .atHl 2 s

/-- LD B, A (40_load.md R200). -/
def execLdBA (s : State) : Result := loadR8R8 .b .a 1 s

/-- LD C, B (40_load.md R200). -/
def execLdCB (s : State) : Result := loadR8R8 .c .b 1 s

/-- LD C, C (40_load.md R200). -/
def execLdCC (s : State) : Result := loadR8R8 .c .c 1 s

/-- LD C, D (40_load.md R200). -/
def execLdCD (s : State) : Result := loadR8R8 .c .d 1 s

/-- LD C, E (40_load.md R200). -/
def execLdCE (s : State) : Result := loadR8R8 .c .e 1 s

/-- LD C, H (40_load.md R200). -/
def execLdCH (s : State) : Result := loadR8R8 .c .h 1 s

/-- LD C, L (40_load.md R200). -/
def execLdCL (s : State) : Result := loadR8R8 .c .l 1 s

/-- LD C, (HL) (40_load.md R202). -/
def execLdCAtHl (s : State) : Result := loadR8R8 .c .atHl 2 s

/-- LD C, A (40_load.md R200). -/
def execLdCA (s : State) : Result := loadR8R8 .c .a 1 s

/-- LD D, B (40_load.md R200). -/
def execLdDB (s : State) : Result := loadR8R8 .d .b 1 s

/-- LD D, C (40_load.md R200). -/
def execLdDC (s : State) : Result := loadR8R8 .d .c 1 s

/-- LD D, D (40_load.md R200). -/
def execLdDD (s : State) : Result := loadR8R8 .d .d 1 s

/-- LD D, E (40_load.md R200). -/
def execLdDE (s : State) : Result := loadR8R8 .d .e 1 s

/-- LD D, H (40_load.md R200). -/
def execLdDH (s : State) : Result := loadR8R8 .d .h 1 s

/-- LD D, L (40_load.md R200). -/
def execLdDL (s : State) : Result := loadR8R8 .d .l 1 s

/-- LD D, (HL) (40_load.md R202). -/
def execLdDAtHl (s : State) : Result := loadR8R8 .d .atHl 2 s

/-- LD D, A (40_load.md R200). -/
def execLdDA (s : State) : Result := loadR8R8 .d .a 1 s

/-- LD E, B (40_load.md R200). -/
def execLdEB (s : State) : Result := loadR8R8 .e .b 1 s

/-- LD E, C (40_load.md R200). -/
def execLdEC (s : State) : Result := loadR8R8 .e .c 1 s

/-- LD E, D (40_load.md R200). -/
def execLdED (s : State) : Result := loadR8R8 .e .d 1 s

/-- LD E, E (40_load.md R200). -/
def execLdEE (s : State) : Result := loadR8R8 .e .e 1 s

/-- LD E, H (40_load.md R200). -/
def execLdEH (s : State) : Result := loadR8R8 .e .h 1 s

/-- LD E, L (40_load.md R200). -/
def execLdEL (s : State) : Result := loadR8R8 .e .l 1 s

/-- LD E, (HL) (40_load.md R202). -/
def execLdEAtHl (s : State) : Result := loadR8R8 .e .atHl 2 s

/-- LD E, A (40_load.md R200). -/
def execLdEA (s : State) : Result := loadR8R8 .e .a 1 s

/-- LD H, B (40_load.md R200). -/
def execLdHB (s : State) : Result := loadR8R8 .h .b 1 s

/-- LD H, C (40_load.md R200). -/
def execLdHC (s : State) : Result := loadR8R8 .h .c 1 s

/-- LD H, D (40_load.md R200). -/
def execLdHD (s : State) : Result := loadR8R8 .h .d 1 s

/-- LD H, E (40_load.md R200). -/
def execLdHE (s : State) : Result := loadR8R8 .h .e 1 s

/-- LD H, H (40_load.md R200). -/
def execLdHH (s : State) : Result := loadR8R8 .h .h 1 s

/-- LD H, L (40_load.md R200). -/
def execLdHL (s : State) : Result := loadR8R8 .h .l 1 s

/-- LD H, (HL) (40_load.md R202). -/
def execLdHAtHl (s : State) : Result := loadR8R8 .h .atHl 2 s

/-- LD H, A (40_load.md R200). -/
def execLdHA (s : State) : Result := loadR8R8 .h .a 1 s

/-- LD L, B (40_load.md R200). -/
def execLdLB (s : State) : Result := loadR8R8 .l .b 1 s

/-- LD L, C (40_load.md R200). -/
def execLdLC (s : State) : Result := loadR8R8 .l .c 1 s

/-- LD L, D (40_load.md R200). -/
def execLdLD (s : State) : Result := loadR8R8 .l .d 1 s

/-- LD L, E (40_load.md R200). -/
def execLdLE (s : State) : Result := loadR8R8 .l .e 1 s

/-- LD L, H (40_load.md R200). -/
def execLdLH (s : State) : Result := loadR8R8 .l .h 1 s

/-- LD L, L (40_load.md R200). -/
def execLdLL (s : State) : Result := loadR8R8 .l .l 1 s

/-- LD L, (HL) (40_load.md R202). -/
def execLdLAtHl (s : State) : Result := loadR8R8 .l .atHl 2 s

/-- LD L, A (40_load.md R200). -/
def execLdLA (s : State) : Result := loadR8R8 .l .a 1 s

/-- LD (HL), B (40_load.md R203). -/
def execLdAtHlB (s : State) : Result := loadR8R8 .atHl .b 2 s

/-- LD (HL), C (40_load.md R203). -/
def execLdAtHlC (s : State) : Result := loadR8R8 .atHl .c 2 s

/-- LD (HL), D (40_load.md R203). -/
def execLdAtHlD (s : State) : Result := loadR8R8 .atHl .d 2 s

/-- LD (HL), E (40_load.md R203). -/
def execLdAtHlE (s : State) : Result := loadR8R8 .atHl .e 2 s

/-- LD (HL), H (40_load.md R203). -/
def execLdAtHlH (s : State) : Result := loadR8R8 .atHl .h 2 s

/-- LD (HL), L (40_load.md R203). -/
def execLdAtHlL (s : State) : Result := loadR8R8 .atHl .l 2 s

/-- LD (HL), A (40_load.md R203). -/
def execLdAtHlA (s : State) : Result := loadR8R8 .atHl .a 2 s

/-- LD A, B (40_load.md R200). -/
def execLdAB (s : State) : Result := loadR8R8 .a .b 1 s

/-- LD A, C (40_load.md R200). -/
def execLdAC (s : State) : Result := loadR8R8 .a .c 1 s

/-- LD A, D (40_load.md R200). -/
def execLdAD (s : State) : Result := loadR8R8 .a .d 1 s

/-- LD A, E (40_load.md R200). -/
def execLdAE (s : State) : Result := loadR8R8 .a .e 1 s

/-- LD A, H (40_load.md R200). -/
def execLdAH (s : State) : Result := loadR8R8 .a .h 1 s

/-- LD A, L (40_load.md R200). -/
def execLdAL (s : State) : Result := loadR8R8 .a .l 1 s

/-- LD A, (HL) (40_load.md R202). -/
def execLdAAtHl (s : State) : Result := loadR8R8 .a .atHl 2 s

/-- LD A, A (40_load.md R200). -/
def execLdAA (s : State) : Result := loadR8R8 .a .a 1 s

/-- POP BC (40_load.md R231). -/
def execPopBc (s : State) : Result := popQQ .bc s

/-- PUSH BC (40_load.md R230). -/
def execPushBc (s : State) : Result := pushQQ .bc s

/-- POP DE (40_load.md R231). -/
def execPopDe (s : State) : Result := popQQ .de s

/-- PUSH DE (40_load.md R230). -/
def execPushDe (s : State) : Result := pushQQ .de s

/-- LDH (a8), A (40_load.md R216). -/
def execLdhAtA8A (n : Byte) (s : State) : Result := storeATo (highPage n) 3 s

/-- POP HL (40_load.md R231). -/
def execPopHl (s : State) : Result := popQQ .hl s

/-- LDH (C), A (40_load.md R218). -/
def execLdhAtCA (s : State) : Result := storeATo (highPage s.cpu.c) 2 s

/-- PUSH HL (40_load.md R230). -/
def execPushHl (s : State) : Result := pushQQ .hl s

/-- LD (a16), A (40_load.md R214). -/
def execLdAtA16A (a : Word) (s : State) : Result := storeATo a 4 s

/-- LDH A, (a8) (40_load.md R217). -/
def execLdhAAtA8 (n : Byte) (s : State) : Result := loadAFrom (highPage n) 3 s

/-- POP AF (40_load.md R232). -/
def execPopAf (s : State) : Result := popQQ .af s

/-- LDH A, (C) (40_load.md R219). -/
def execLdhAAtC (s : State) : Result := loadAFrom (highPage s.cpu.c) 2 s

/-- PUSH AF (40_load.md R230). -/
def execPushAf (s : State) : Result := pushQQ .af s

/-- LD HL, SP+e8 (40_load.md R223). -/
def execLdHlSpE8 (e : Byte) (s : State) : Result :=
  let (v, h, c) := addSpE8Fun s.cpu.sp e
  finish ((s.setHl v).setFlags false false h c) 3

/-- LD SP, HL (40_load.md R222). -/
def execLdSpHl (s : State) : Result := finish (s.setSp s.hl) 2

/-- LD A, (a16) (40_load.md R213). -/
def execLdAAtA16 (a : Word) (s : State) : Result := loadAFrom a 4 s

end Sys2Proof.Machine
end

