-- ==== Sys2Proof/Machine/RotateShift.lean ====
section
/-! DEFINITION. Rotate, shift and swap instructions (43_rotate_shift.md): one meaning for each row of the opcode table, over
the shared operations of Machine/Operands.lean. -/

namespace Sys2Proof.Machine

/-- RLCA (43_rotate_shift.md R330). -/
def execRlca (s : State) : Result := rotateA .rlc s

/-- RRCA (43_rotate_shift.md R331). -/
def execRrca (s : State) : Result := rotateA .rrc s

/-- RLA (43_rotate_shift.md R332). -/
def execRla (s : State) : Result := rotateA .rl s

/-- RRA (43_rotate_shift.md R333). -/
def execRra (s : State) : Result := rotateA .rr s

/-- RLC B (43_rotate_shift.md R334). -/
def execRlcB (s : State) : Result := shiftR8 .rlc .b s

/-- RLC C (43_rotate_shift.md R334). -/
def execRlcC (s : State) : Result := shiftR8 .rlc .c s

/-- RLC D (43_rotate_shift.md R334). -/
def execRlcD (s : State) : Result := shiftR8 .rlc .d s

/-- RLC E (43_rotate_shift.md R334). -/
def execRlcE (s : State) : Result := shiftR8 .rlc .e s

/-- RLC H (43_rotate_shift.md R334). -/
def execRlcH (s : State) : Result := shiftR8 .rlc .h s

/-- RLC L (43_rotate_shift.md R334). -/
def execRlcL (s : State) : Result := shiftR8 .rlc .l s

/-- RLC (HL) (43_rotate_shift.md R335). -/
def execRlcAtHl (s : State) : Result := shiftR8 .rlc .atHl s

/-- RLC A (43_rotate_shift.md R334). -/
def execRlcA (s : State) : Result := shiftR8 .rlc .a s

/-- RRC B (43_rotate_shift.md R336). -/
def execRrcB (s : State) : Result := shiftR8 .rrc .b s

/-- RRC C (43_rotate_shift.md R336). -/
def execRrcC (s : State) : Result := shiftR8 .rrc .c s

/-- RRC D (43_rotate_shift.md R336). -/
def execRrcD (s : State) : Result := shiftR8 .rrc .d s

/-- RRC E (43_rotate_shift.md R336). -/
def execRrcE (s : State) : Result := shiftR8 .rrc .e s

/-- RRC H (43_rotate_shift.md R336). -/
def execRrcH (s : State) : Result := shiftR8 .rrc .h s

/-- RRC L (43_rotate_shift.md R336). -/
def execRrcL (s : State) : Result := shiftR8 .rrc .l s

/-- RRC (HL) (43_rotate_shift.md R337). -/
def execRrcAtHl (s : State) : Result := shiftR8 .rrc .atHl s

/-- RRC A (43_rotate_shift.md R336). -/
def execRrcA (s : State) : Result := shiftR8 .rrc .a s

/-- RL B (43_rotate_shift.md R338). -/
def execRlB (s : State) : Result := shiftR8 .rl .b s

/-- RL C (43_rotate_shift.md R338). -/
def execRlC (s : State) : Result := shiftR8 .rl .c s

/-- RL D (43_rotate_shift.md R338). -/
def execRlD (s : State) : Result := shiftR8 .rl .d s

/-- RL E (43_rotate_shift.md R338). -/
def execRlE (s : State) : Result := shiftR8 .rl .e s

/-- RL H (43_rotate_shift.md R338). -/
def execRlH (s : State) : Result := shiftR8 .rl .h s

/-- RL L (43_rotate_shift.md R338). -/
def execRlL (s : State) : Result := shiftR8 .rl .l s

/-- RL (HL) (43_rotate_shift.md R339). -/
def execRlAtHl (s : State) : Result := shiftR8 .rl .atHl s

/-- RL A (43_rotate_shift.md R338). -/
def execRlA (s : State) : Result := shiftR8 .rl .a s

/-- RR B (43_rotate_shift.md R340). -/
def execRrB (s : State) : Result := shiftR8 .rr .b s

/-- RR C (43_rotate_shift.md R340). -/
def execRrC (s : State) : Result := shiftR8 .rr .c s

/-- RR D (43_rotate_shift.md R340). -/
def execRrD (s : State) : Result := shiftR8 .rr .d s

/-- RR E (43_rotate_shift.md R340). -/
def execRrE (s : State) : Result := shiftR8 .rr .e s

/-- RR H (43_rotate_shift.md R340). -/
def execRrH (s : State) : Result := shiftR8 .rr .h s

/-- RR L (43_rotate_shift.md R340). -/
def execRrL (s : State) : Result := shiftR8 .rr .l s

/-- RR (HL) (43_rotate_shift.md R341). -/
def execRrAtHl (s : State) : Result := shiftR8 .rr .atHl s

/-- RR A (43_rotate_shift.md R340). -/
def execRrA (s : State) : Result := shiftR8 .rr .a s

/-- SLA B (43_rotate_shift.md R342). -/
def execSlaB (s : State) : Result := shiftR8 .sla .b s

/-- SLA C (43_rotate_shift.md R342). -/
def execSlaC (s : State) : Result := shiftR8 .sla .c s

/-- SLA D (43_rotate_shift.md R342). -/
def execSlaD (s : State) : Result := shiftR8 .sla .d s

/-- SLA E (43_rotate_shift.md R342). -/
def execSlaE (s : State) : Result := shiftR8 .sla .e s

/-- SLA H (43_rotate_shift.md R342). -/
def execSlaH (s : State) : Result := shiftR8 .sla .h s

/-- SLA L (43_rotate_shift.md R342). -/
def execSlaL (s : State) : Result := shiftR8 .sla .l s

/-- SLA (HL) (43_rotate_shift.md R343). -/
def execSlaAtHl (s : State) : Result := shiftR8 .sla .atHl s

/-- SLA A (43_rotate_shift.md R342). -/
def execSlaA (s : State) : Result := shiftR8 .sla .a s

/-- SRA B (43_rotate_shift.md R344). -/
def execSraB (s : State) : Result := shiftR8 .sra .b s

/-- SRA C (43_rotate_shift.md R344). -/
def execSraC (s : State) : Result := shiftR8 .sra .c s

/-- SRA D (43_rotate_shift.md R344). -/
def execSraD (s : State) : Result := shiftR8 .sra .d s

/-- SRA E (43_rotate_shift.md R344). -/
def execSraE (s : State) : Result := shiftR8 .sra .e s

/-- SRA H (43_rotate_shift.md R344). -/
def execSraH (s : State) : Result := shiftR8 .sra .h s

/-- SRA L (43_rotate_shift.md R344). -/
def execSraL (s : State) : Result := shiftR8 .sra .l s

/-- SRA (HL) (43_rotate_shift.md R345). -/
def execSraAtHl (s : State) : Result := shiftR8 .sra .atHl s

/-- SRA A (43_rotate_shift.md R344). -/
def execSraA (s : State) : Result := shiftR8 .sra .a s

/-- SWAP B (43_rotate_shift.md R346). -/
def execSwapB (s : State) : Result := shiftR8 .swap .b s

/-- SWAP C (43_rotate_shift.md R346). -/
def execSwapC (s : State) : Result := shiftR8 .swap .c s

/-- SWAP D (43_rotate_shift.md R346). -/
def execSwapD (s : State) : Result := shiftR8 .swap .d s

/-- SWAP E (43_rotate_shift.md R346). -/
def execSwapE (s : State) : Result := shiftR8 .swap .e s

/-- SWAP H (43_rotate_shift.md R346). -/
def execSwapH (s : State) : Result := shiftR8 .swap .h s

/-- SWAP L (43_rotate_shift.md R346). -/
def execSwapL (s : State) : Result := shiftR8 .swap .l s

/-- SWAP (HL) (43_rotate_shift.md R347). -/
def execSwapAtHl (s : State) : Result := shiftR8 .swap .atHl s

/-- SWAP A (43_rotate_shift.md R346). -/
def execSwapA (s : State) : Result := shiftR8 .swap .a s

/-- SRL B (43_rotate_shift.md R348). -/
def execSrlB (s : State) : Result := shiftR8 .srl .b s

/-- SRL C (43_rotate_shift.md R348). -/
def execSrlC (s : State) : Result := shiftR8 .srl .c s

/-- SRL D (43_rotate_shift.md R348). -/
def execSrlD (s : State) : Result := shiftR8 .srl .d s

/-- SRL E (43_rotate_shift.md R348). -/
def execSrlE (s : State) : Result := shiftR8 .srl .e s

/-- SRL H (43_rotate_shift.md R348). -/
def execSrlH (s : State) : Result := shiftR8 .srl .h s

/-- SRL L (43_rotate_shift.md R348). -/
def execSrlL (s : State) : Result := shiftR8 .srl .l s

/-- SRL (HL) (43_rotate_shift.md R349). -/
def execSrlAtHl (s : State) : Result := shiftR8 .srl .atHl s

/-- SRL A (43_rotate_shift.md R348). -/
def execSrlA (s : State) : Result := shiftR8 .srl .a s

end Sys2Proof.Machine
end

