-- ==== Sys2Proof/Machine/System.lean ====
section
/-! DEFINITION. System and control instructions, the prefix row and the unassigned opcodes (46_system.md): one meaning for each row of the opcode table, over
the shared operations of Machine/Operands.lean. -/

namespace Sys2Proof.Machine

/-- NOP (46_system.md R410). -/
def execNop (s : State) : Result := finish s 1

/-- STOP: its second byte is fetched with it and ignored (46_system.md R412). -/
def execStop (_n : Byte) (s : State) : Result := finish s 1

/-- HALT (46_system.md R411). -/
def execHalt (s : State) : Result := finish { s with irq := { s.irq with halted := true } } 1

/-- PREFIX CB: fetches op2 at PC and executes the extended instruction (46_system.md R415). -/
def execPrefixCb (s : State) : Result :=
  let (op2, s1) := s.fetch8
  executeExtended op2 s1

/-- Unassigned opcode 0xD3: a no-op (46_system.md R416). -/
def execUnassignedD3 (s : State) : Result := finish s Params.unassignedOpcodeCycles

/-- Unassigned opcode 0xDB: a no-op (46_system.md R416). -/
def execUnassignedDB (s : State) : Result := finish s Params.unassignedOpcodeCycles

/-- Unassigned opcode 0xDD: a no-op (46_system.md R416). -/
def execUnassignedDD (s : State) : Result := finish s Params.unassignedOpcodeCycles

/-- Unassigned opcode 0xE3: a no-op (46_system.md R416). -/
def execUnassignedE3 (s : State) : Result := finish s Params.unassignedOpcodeCycles

/-- Unassigned opcode 0xE4: a no-op (46_system.md R416). -/
def execUnassignedE4 (s : State) : Result := finish s Params.unassignedOpcodeCycles

/-- Unassigned opcode 0xEB: a no-op (46_system.md R416). -/
def execUnassignedEB (s : State) : Result := finish s Params.unassignedOpcodeCycles

/-- Unassigned opcode 0xEC: a no-op (46_system.md R416). -/
def execUnassignedEC (s : State) : Result := finish s Params.unassignedOpcodeCycles

/-- Unassigned opcode 0xED: a no-op (46_system.md R416). -/
def execUnassignedED (s : State) : Result := finish s Params.unassignedOpcodeCycles

/-- DI (46_system.md R413). -/
def execDi (s : State) : Result := finish { s with irq := { s.irq with ime := false, eiPending := false } } 1

/-- Unassigned opcode 0xF4: a no-op (46_system.md R416). -/
def execUnassignedF4 (s : State) : Result := finish s Params.unassignedOpcodeCycles

/-- EI (46_system.md R414). -/
def execEi (s : State) : Result := finish { s with irq := { s.irq with eiPending := true } } 1

/-- Unassigned opcode 0xFC: a no-op (46_system.md R416). -/
def execUnassignedFC (s : State) : Result := finish s Params.unassignedOpcodeCycles

/-- Unassigned opcode 0xFD: a no-op (46_system.md R416). -/
def execUnassignedFD (s : State) : Result := finish s Params.unassignedOpcodeCycles

end Sys2Proof.Machine
end

