-- ==== Sys2Proof/Machine/HostInput.lean ====
section
/-! DEFINITION. The host's button transitions between steps and the joypad interrupt (60_exceptions.md R532, R540). -/

namespace Sys2Proof.Machine

/-- The `released` flag of a button (10_state.md R88). -/
def Joypad.released (j : Joypad) (btn : Button) : Bool :=
  match btn with
  | .right => j.right
  | .left => j.left
  | .up => j.up
  | .down => j.down
  | .a => j.a
  | .b => j.b
  | .select => j.select
  | .start => j.start

/-- Writes the `released` flag of a button. -/
def Joypad.setReleased (j : Joypad) (btn : Button) (v : Bool) : Joypad :=
  match btn with
  | .right => { j with right := v }
  | .left => { j with left := v }
  | .up => { j with up := v }
  | .down => { j with down := v }
  | .a => { j with a := v }
  | .b => { j with b := v }
  | .select => { j with select := v }
  | .start => { j with start := v }

/-- One transition: a press (the flag goes from 1 to 0) requests interrupt 4, whatever p1_select is; a release
requests nothing (R532). -/
def State.applyButton (s : State) (ev : ButtonEvent) : State :=
  let s' := { s with joypad := s.joypad.setReleased ev.button ev.released }
  if s.joypad.released ev.button && !ev.released then s'.request 4 else s'

/-- The transitions the host applies at this step boundary, in order; the rest of the schedule stays (R540; log
entry 4). -/
def State.applyHostInput (s : State) : State :=
  match s.hostInput with
  | [] => s
  | evs :: later => evs.foldl State.applyButton { s with hostInput := later }

end Sys2Proof.Machine
end

