-- ==== Sys2Proof/Machine/Ppu.lean ====
section
/-! DEFINITION. The PPU (60_exceptions.md R500 to R522): the line renderer and the mode state machine. It reads
memory through the bus (20_memory.md R110). -/

namespace Sys2Proof.Machine

open Bits

/-! ### The line renderer (R514 to R521) -/

/-- A VRAM byte by its bus address. -/
def State.vram (s : State) (a : Nat) : Byte := s.busRead (BitVec.ofNat 16 a)

/-- An OAM byte by its offset. -/
def State.oam (s : State) (i : Nat) : Byte := s.busRead (BitVec.ofNat 16 (0xFE00 + i))

/-- `shade(P, i) = (P >> (2*i)) & 3` (10_state.md R76). -/
def shade (p : Byte) (i : BitVec 2) : BitVec 2 := p.extractLsb' (2 * i.toNat) 2

/-- The colour index of pixel column c (0 leftmost) of the tile line at address a: `2*hi[7-c] + lo[7-c]`
(10_state.md R78, 60_exceptions.md R514). -/
def State.tilePixel (s : State) (a c : Nat) : BitVec 2 :=
  BitVec.ofBool ((s.vram (a + 1)).getLsbD (7 - c)) ++ BitVec.ofBool ((s.vram a).getLsbD (7 - c))

/-- `tile_row(t, r)` (R514): the address of row r of background or window tile t; LCDC bit 4 selects unsigned
addressing from 0x8000 or signed around 0x9000. -/
def State.tileRow (s : State) (t : Byte) (r : Nat) : Nat :=
  if s.ppu.lcdc.getLsbD 4 then 0x8000 + 16 * t.toNat + 2 * r
  else ((0x9000 : Int) + 16 * t.toInt + 2 * r).toNat

/-- The colour index at pixel (px, py) of the layer whose tile map is at `map` (R515, R517; 10_state.md R79). -/
def State.layerPixel (s : State) (map px py : Nat) : BitVec 2 :=
  let t := s.vram (map + 32 * (py / 8) + px / 8)
  s.tilePixel (s.tileRow t (py % 8)) (px % 8)

/-- The base of the tile map an LCDC bit selects: 0 is 0x9800, 1 is 0x9C00 (10_state.md R70). -/
def mapBase (sel : Bool) : Nat := if sel then 0x9C00 else 0x9800

/-- The background's colour index at column x of line ly (R515); it wraps at 256 both ways. -/
def State.bgPixel (s : State) (ly x : Nat) : BitVec 2 :=
  s.layerPixel (mapBase (s.ppu.lcdc.getLsbD 3)) ((x + s.ppu.scx.toNat) % 256) ((ly + s.ppu.scy.toNat) % 256)

/-- `window_covers(ly, x)` (R517): LCDC bit 5, ly >= WY and x >= WX - 7 as a signed integer. -/
def State.windowCovers (s : State) (ly x : Nat) : Bool :=
  s.ppu.lcdc.getLsbD 5 && decide (s.ppu.wy.toNat ≤ ly) && decide ((x : Int) ≥ (s.ppu.wx.toNat : Int) - 7)

/-- The window's colour index at column x of line ly, where it covers them (R517). -/
def State.windowPixel (s : State) (ly x : Nat) : BitVec 2 :=
  s.layerPixel (mapBase (s.ppu.lcdc.getLsbD 6)) (x + 7 - s.ppu.wx.toNat) (ly - s.ppu.wy.toNat)

/-- The sprite height of LCDC bit 2 (10_state.md R70). -/
def State.spriteHeight (s : State) : Nat := if s.ppu.lcdc.getLsbD 2 then 16 else 8

/-- The vertical extent of sprite i covers line ly (R519). -/
def State.spriteCovers (s : State) (ly i : Nat) : Bool :=
  let top : Int := (s.oam (4 * i)).toNat - 16
  decide (top ≤ ly) && decide ((ly : Int) < top + s.spriteHeight)

/-- Sprite selection for line ly (R519): the first 10 in OAM order that cover it. -/
def State.selectSprites (s : State) (ly : Nat) : List Nat :=
  ((List.range Config.oamEntries).filter (s.spriteCovers ly)).take Config.maxSpritesPerLine

/-- An opaque sprite pixel: the sprite's OAM index, its X byte, the colour index and the attributes (R520). -/
structure SpritePixel where
  i : Nat
  x : Byte
  idx : BitVec 2
  attr : Byte
deriving DecidableEq, Repr

/-- The opaque pixel of sprite i at column x of line ly, or none (R520). -/
def State.spriteOpaque (s : State) (ly x i : Nat) : Option SpritePixel :=
  let xb := s.oam (4 * i + 1)
  let t := s.oam (4 * i + 2)
  let attr := s.oam (4 * i + 3)
  let left : Int := xb.toNat - 8
  if decide (left ≤ x) && decide ((x : Int) < xb.toNat) then
    let h := s.spriteHeight
    let row0 := (ly + 16) - (s.oam (4 * i)).toNat
    let row := if attr.getLsbD 6 then h - 1 - row0 else row0
    let col0 := (x + 8) - xb.toNat
    let col := if attr.getLsbD 5 then 7 - col0 else col0
    let tile := if h = 16 then (t &&& 0xFE).toNat + row / 8 else t.toNat
    let idx := s.tilePixel (0x8000 + 16 * tile + 2 * (row % 8)) col
    if idx = 0 then none else some { i := i, x := xb, idx := idx, attr := attr }
  else none

/-- Whether a pixel wins over the best so far: the lowest X, a tie to the lowest OAM index (R520). -/
def SpritePixel.beats (p best : SpritePixel) : Bool :=
  decide (p.x.toNat < best.x.toNat) || (p.x == best.x && decide (p.i < best.i))

/-- `sprite_pixel(ly, x)` over the selected sprites (R520). -/
def State.spritePixel (s : State) (sel : List Nat) (ly x : Nat) : Option SpritePixel :=
  sel.foldl
    (fun best i =>
      match s.spriteOpaque ly x i, best with
      | none, b => b
      | some p, none => some p
      | some p, some b => if p.beats b then some p else some b)
    none

/-- `composite(bg_idx, bg_shade, s)` (R521). -/
def State.composite (s : State) (bgIdx bgShade : BitVec 2) (p : Option SpritePixel) : BitVec 2 :=
  match p with
  | none => bgShade
  | some p =>
    if p.attr.getLsbD 7 && bgIdx != 0 then bgShade
    else shade (if p.attr.getLsbD 4 then s.ppu.obp1 else s.ppu.obp0) p.idx

/-- The background or window layer at column x of line ly: its colour index and shade (R516, R518). -/
def State.backLayer (s : State) (ly x : Nat) : BitVec 2 × BitVec 2 :=
  if s.ppu.lcdc.getLsbD 0 then
    let idx := if s.windowCovers ly x then s.windowPixel ly x else s.bgPixel ly x
    (idx, shade s.ppu.bgp idx)
  else (0, 0)

/-- The sprites of a line: none when LCDC bit 1 is 0 (R516, R519). -/
def State.lineSprites (s : State) (ly : Nat) : List Nat :=
  if s.ppu.lcdc.getLsbD 1 then s.selectSprites ly else []

/-- The shade at column x of line ly (R516). -/
def State.pixel (s : State) (sel : List Nat) (ly x : Nat) : BitVec 2 :=
  let (idx, sh) := s.backLayer ly x
  s.composite idx sh (s.spritePixel sel ly x)

/-- The 160 shades of line ly (R516). -/
def State.lineShades (s : State) (ly : Nat) : List (BitVec 2) :=
  (List.range Config.screenWidth).map (s.pixel (s.lineSprites ly) ly)

/-- A line of the frame buffer that nothing has drawn: 160 times shade 0 (70_reset_and_hazards.md R557). -/
def blankLine : List (BitVec 2) := List.replicate Config.screenWidth 0

/-- `render_line(ly)` (R516): it writes row ly of the frame buffer and nothing else (R522). There are rows 0 to 143
only (10_state.md R82; log entry 15). -/
def State.renderLine (s : State) (ly : Nat) : State :=
  if ly < Config.visibleLines then { s with frame := storeWrite blankLine s.frame ly (s.lineShades ly) } else s

/-- Row ly of the frame buffer. -/
def State.frameLine (s : State) (ly : Nat) : List (BitVec 2) := storeRead blankLine s.frame ly

/-! ### The mode state machine (R500 to R513) -/

/-- `modenum` (60_exceptions.md R503). -/
def modeNum (m : Mode) : BitVec 2 :=
  match m with
  | .hblank => 0
  | .vblank => 1
  | .oamScan => 2
  | .draw => 3

/-- `set_LY(v)` (R505): a change of LY runs the coincidence check. -/
def State.setLy (s : State) (v : Byte) : State :=
  let s' := { s with ppu := { s.ppu with ly := v } }
  if s.ppu.ly = v then s' else s'.lycCheck

/-- Enters a mode: its budget is added to dots_remaining, so the overshoot carries over (R502). -/
def State.enterMode (s : State) (m : Mode) (budget : Nat) : State :=
  { s with ppu := { s.ppu with mode := m, dotsRemaining := s.ppu.dotsRemaining + budget } }

/-- The STAT interrupt of a mode entry, where STAT's bit enables it (R512). -/
def State.statRequest (s : State) (bit : Nat) : State := if s.ppu.stat.getLsbD bit then s.request 1 else s

/-- `enter_vblank()` (R511): the overshoot starts vblank_dots, interrupt 0 is requested, frame_count grows, STAT bit 4
may request interrupt 1, and the frame is presented to the host (R541). -/
def State.enterVblank (s : State) : State :=
  let s1 := { s with ppu := { s.ppu with vblankDots := (-s.ppu.dotsRemaining).toNat } }
  let s2 := (s1.enterMode .vblank Params.vblankDots).request 0
  let s3 := { s2 with ppu := { s2.ppu with frameCount := s2.ppu.frameCount + 1 } }
  let s4 := s3.statRequest 4
  { s4 with presented := some { frameCount := s4.ppu.frameCount, frame := s4.frame } }

/-- STAT[1:0] <- modenum(mode) (R503). -/
def State.syncStat (s : State) : State :=
  { s with ppu := { s.ppu with stat := (s.ppu.stat &&& 0xFC) ||| (modeNum s.ppu.mode).setWidth 8 } }

/-- The start of an OAM scan, from h-blank or from v-blank (R502, R512). -/
def State.enterOamScan (s : State) : State := (s.enterMode .oamScan Params.oamScanDots).statRequest 5

/-- `ppu_transition()` (R502). -/
def State.ppuTransition (s : State) : State :=
  State.syncStat <|
    match s.ppu.mode with
    | .oamScan => s.enterMode .draw Params.drawDots
    | .draw => ((s.renderLine s.ppu.ly.toNat).enterMode .hblank Params.hblankDots).statRequest 3
    | .hblank =>
      let s1 := s.setLy (s.ppu.ly + 1)
      if s1.ppu.ly = 144 then s1.enterVblank else s1.enterOamScan
    | .vblank => (s.setLy 0).enterOamScan

/-- The loop `while dots_remaining <= 0: ppu_transition()` (R501), at most `fuel` times round. -/
def State.ppuLoop (fuel : Nat) (s : State) : State :=
  match fuel with
  | 0 => s
  | fuel + 1 => if s.ppu.dotsRemaining ≤ 0 then State.ppuLoop fuel s.ppuTransition else s

/-- Rounds enough for the loop to end: every transition adds at least OAM_SCAN_DOTS (R508; log entry 13). -/
def State.ppuFuel (s : State) : Nat := (-s.ppu.dotsRemaining).toNat / Params.oamScanDots + 1

/-- LY while the PPU is in v-blank: `144 + min(9, vblank_dots div LINE_DOTS)` (R504). -/
def vblankLy (dots : Nat) : Byte := BitVec.ofNat 8 (144 + min 9 (dots / Params.lineDots))

/-- The dots of n cycles taken from the current mode, and in v-blank the pacing of LY (R501, R504). -/
def State.spendDots (s : State) (n : Nat) : State :=
  let d := Params.dotsPerCycle * n
  let s1 := { s with ppu := { s.ppu with dotsRemaining := s.ppu.dotsRemaining - d } }
  if s1.ppu.mode = .vblank then
    let v := s1.ppu.vblankDots + d
    State.setLy { s1 with ppu := { s1.ppu with vblankDots := v } } (vblankLy v)
  else s1

/-- `ppu_advance(n)` (R501). -/
def State.ppuAdvance (s : State) (n : Nat) : State :=
  let s1 := s.spendDots n
  State.ppuLoop s1.ppuFuel s1

end Sys2Proof.Machine
end

