-- ==== Sys2Proof/Machine/Timing.lean ====
section
/-! DEFINITION. The timer (60_exceptions.md R450 to R457), advanced once a step by the instruction's cost. -/

namespace Sys2Proof.Machine

/-- `period(s)` of TAC[1:0], in cycles (60_exceptions.md R451). -/
def timerPeriod (tac : Byte) : Nat :=
  match (tac.extractLsb' 0 2).toFin with
  | 0 => 256
  | 1 => 4
  | 2 => 16
  | 3 => 64

/-- TAC bit 2: the timer is enabled (10_state.md R59). -/
def timerEnabled (tac : Byte) : Bool := tac.getLsbD 2

/-- `tima_tick()` (60_exceptions.md R456): on overflow TIMA reloads from TMA and interrupt 2 is requested, at once. -/
def State.timaTick (s : State) : State :=
  if s.timer.tima = 0xFF then
    State.request { s with timer := { s.timer with tima := s.timer.tma } } 2
  else { s with timer := { s.timer with tima := s.timer.tima + 1 } }

/-- `k` ticks in a row. -/
def State.timaTicks (k : Nat) (s : State) : State :=
  match k with
  | 0 => s
  | k + 1 => State.timaTicks k s.timaTick

/-- DIV's part of `timer_advance(n)` (60_exceptions.md R450): the loop of subtractions of DIV_PERIOD is a division
with remainder (log entry 13). -/
def State.divAdvance (s : State) (n : Nat) : State :=
  let t := s.timer.divSub + n
  { s with timer := { s.timer with
      div := s.timer.div + BitVec.ofNat 8 (t / Params.divPeriod), divSub := t % Params.divPeriod } }

/-- TIMA's part of `timer_advance(n)` (60_exceptions.md R450, R455): it accumulates only while TAC bit 2 is set, and
ticks once for every whole period. -/
def State.timaAdvance (s : State) (n : Nat) : State :=
  if timerEnabled s.timer.tac then
    let p := timerPeriod s.timer.tac
    let t := s.timer.timaSub + n
    State.timaTicks (t / p) { s with timer := { s.timer with timaSub := t % p } }
  else s

/-- `timer_advance(n)` (60_exceptions.md R450). -/
def State.timerAdvance (s : State) (n : Nat) : State := (s.divAdvance n).timaAdvance n

end Sys2Proof.Machine
end

