-- ==== Sys2Proof/Machine/CpuStep.lean ====
section
/-! DEFINITION. The CPU step and the driver loop (60_exceptions.md R430, R431), and the placing of an instruction
where the next fetch reads it. -/

namespace Sys2Proof.Machine

/-- The instruction at PC (30_encoding.md R161): the bytes at PC, PC + 1 and PC + 2 through the bus, decoded. A read
has no side effect (20_memory.md R119), so a byte the instruction does not have makes no difference (log entry 7). -/
def State.instrAtPc (s : State) : Instr :=
  decodeBytes (s.busRead s.cpu.pc) (s.busRead (s.cpu.pc + 1)) (s.busRead (s.cpu.pc + 2))

/-- PC after every byte of the instruction at PC has been fetched (10_state.md R47, 00_scope.md R19). -/
def State.pcAfterFetch (s : State) : Word := s.cpu.pc + BitVec.ofNat 16 (opLength (s.busRead s.cpu.pc))

/-- The EI delay at the start of a step (60_exceptions.md R430, 46_system.md R414). -/
def State.eiDelay (s : State) : State :=
  if s.irq.eiPending then { s with irq := { s.irq with ime := true, eiPending := false } } else s

/-- One instruction: all its bytes are fetched, then it executes; or one halted idle period, with nothing fetched
(60_exceptions.md R430). -/
def State.runInstruction (s : State) : Result :=
  if s.irq.halted then .next (s.withCost Params.haltIdleCycles)
  else exec s.instrAtPc (s.setPc s.pcAfterFetch)

/-- What a step does once `execute` has returned its cost: the timer advances by the cost, the interrupts are
evaluated, and the total is added to `cycles` and returned (60_exceptions.md R430). -/
def State.endStep (s : State) : State :=
  let s1 := s.timerAdvance s.cost
  let total := s.cost + s1.interruptCost
  let s2 := s1.interruptEvaluate
  { s2 with cycles := s2.cycles + BitVec.ofNat 64 total, cost := total }

/-- `step()` of the CPU (60_exceptions.md R430). -/
def cpuStep (s : State) : Result :=
  match s.eiDelay.runInstruction with
  | .next s' => .next s'.endStep
  | .fault r => .fault r
  | .refused r => .refused r

/-- One round of the driver loop (60_exceptions.md R431): the CPU step, the PPU advance by its total, the host's
input transitions. -/
def driverStep (s : State) : Result :=
  match cpuStep s with
  | .next s' => .next (s'.ppuAdvance s'.cost).applyHostInput
  | .fault r => .fault r
  | .refused r => .refused r

/-! ### Placing an instruction -/

/-- The addresses whose byte a load can place: ROM and plain memory. -/
def Region.isPlaceable (r : Region) : Bool :=
  match r with
  | .romFixed | .romBanked => true
  | _ => r.isMemory

/-- Places a byte in the component behind an address, as a load does (it is no bus write). -/
def State.place (s : State) (a : Word) (v : Byte) : State :=
  match route a with
  | .romFixed => { s with cart := { s.cart with rom := Memory.write s.cart.rom a.toNat v } }
  | .romBanked => { s with cart := { s.cart with rom := Memory.write s.cart.rom (s.cart.bankOffset a) v } }
  | r => if r.isMemory then s.memWrite a.toNat v else s

/-- The three bytes at PC, PC + 1 and PC + 2 can be placed. -/
def State.pcPlaceable (s : State) : Bool :=
  (route s.cpu.pc).isPlaceable && (route (s.cpu.pc + 1)).isPlaceable && (route (s.cpu.pc + 2)).isPlaceable

/-- The state with a word of the opcode table stored where the next step fetches it: the CPU is not halted, and a PC
at an address that holds no placeable byte moves to WRAM (log entry 10). -/
def placeWord (s : State) (nbits w : Nat) : State :=
  let s1 := if s.pcPlaceable then s else s.setPc 0xC000
  let s2 := { s1 with irq := { s1.irq with halted := false } }
  let (b0, b1, b2) := tableBytes nbits w
  ((s2.place s2.cpu.pc b0).place (s2.cpu.pc + 1) b1).place (s2.cpu.pc + 2) b2

end Sys2Proof.Machine
end

