-- ==== Sys2Proof/Machine/Boot.lean ====
section
/-! DEFINITION. The load sequence (70_reset_and_hazards.md R551, 20_memory.md R121, R126, R127, R130): from the load
inputs to the state before the first step, or a load-time failure. -/

namespace Sys2Proof.Machine

/-- `cart_type`: the byte at image offset 0x147 (10_state.md R86). -/
def imageType (image : List Byte) : Byte := image.getD 0x147 0

/-- ROM_CAPACITY of a cartridge type, none for a type that is not supported (20_memory.md R121, R127). -/
def romCapacity (cartType : Byte) : Option Nat :=
  if cartType = 0x00 then some Config.romOnlyCapacity
  else if cartType = 0x01 ∨ cartType = 0x02 ∨ cartType = 0x03 then some Config.mbc1Capacity
  else none

/-- The RAM bytes of a draw: those at the addresses of plain memory (00_scope.md R11, 70_reset_and_hazards.md R557). -/
def drawnMemory (cells : List (Nat × Byte)) : List Host.Cell :=
  cells.foldl
    (fun m c => if c.1 < 0x10000 && (route (BitVec.ofNat 16 c.1)).isMemory then Memory.write m c.1 c.2 else m) []

/-- The CPU registers at power-on with a boot ROM: the draw, F's low nibble 0, PC 0x0000 (70_reset_and_hazards.md
R552). -/
def bootCpu (r : InitialRegs) : Cpu where
  a := r.a
  f := r.f &&& 0xF0
  b := r.b
  c := r.c
  d := r.d
  e := r.e
  h := r.h
  l := r.l
  sp := r.sp
  pc := 0x0000

/-- The cartridge after the load: the image at offset 0, and with a boot ROM cart_low and the overlay
(20_memory.md R126, R130; 70_reset_and_hazards.md R554, R558). DESIGN CHOICE: without a boot ROM cart_low stays empty
and reads 0x00, since R130 and R551 copy it only when a boot ROM is given (log entry 23). -/
def loadedCart (image : List Byte) (boot : Option (List Byte)) : Cart :=
  let rom := Memory.writeList [] 0 image
  match boot with
  | none => { Cart.reset with cartType := imageType image, rom := rom }
  | some b =>
    { cartType := imageType image
      rom := overlayLow rom (Memory.writeList [] 0 b)
      romBank := 1
      cartLow := Memory.writeList [] 0 (image.take Config.bootRomSize)
      bootImage := some b
      disableBootrom := false }

/-- The state before the first step, once the checks have passed (70_reset_and_hazards.md R551 to R559). -/
def State.loaded (x : LoadInputs) : State :=
  let s := { State.reset with
    cart := loadedCart x.cartImage x.bootRom, mem := drawnMemory x.initialMemory, hostInput := x.hostInput }
  match x.bootRom with
  | none => s
  | some _ => { s with cpu := bootCpu x.initialRegs, ppu := { Ppu.reset with lcdc := 0x00, bgp := 0x00 } }

/-- The load-time checks (20_memory.md R127): the failure, if there is one. -/
def loadCheck (x : LoadInputs) : Option Fault :=
  if x.cartImage.length < Config.minImageSize then some .malformedImage
  else
    match romCapacity (imageType x.cartImage) with
    | none => some .unsupportedCartridge
    | some cap =>
      if cap < x.cartImage.length then some .oversizedImage
      else
        match x.bootRom with
        | none => none
        | some b => if b.length = Config.bootRomSize then none else some .malformedBootRom

/-- The load (70_reset_and_hazards.md R551): a failed check is `fatal` and the core does not start. -/
def State.load (x : LoadInputs) : Result :=
  match loadCheck x with
  | some f => .fault f
  | none => .next (State.loaded x)

end Sys2Proof.Machine
end

