-- ==== Sys2Proof/Safety.lean ====
section
/-! DEFINITION. The terms in which claims are stated: what an instruction leaves unchanged, the flags it leaves, the
addresses a bus write can change, the encodings' register codes, the invariant of the machine, and the dead halt. -/

namespace Sys2Proof

/-! ### The codes of the operand fields (30_encoding.md R163 to R170) -/

/-- The code of the field r (30_encoding.md R163). -/
def R8.code (r : R8) : Nat :=
  match r with
  | .b => 0
  | .c => 1
  | .d => 2
  | .e => 3
  | .h => 4
  | .l => 5
  | .atHl => 6
  | .a => 7

/-- The code of the field rr (30_encoding.md R164). -/
def RR.code (r : RR) : Nat :=
  match r with
  | .bc => 0
  | .de => 1
  | .hl => 2
  | .sp => 3

/-- The code of the field qq (30_encoding.md R165). -/
def QQ.code (q : QQ) : Nat :=
  match q with
  | .bc => 0
  | .de => 1
  | .hl => 2
  | .af => 3

/-- The code of the field cc (30_encoding.md R166). -/
def CC.code (c : CC) : Nat :=
  match c with
  | .nz => 0
  | .z => 1
  | .nc => 2
  | .c => 3

/-- The code of the field m (30_encoding.md R167). -/
def Ind.code (m : Ind) : Nat :=
  match m with
  | .bc => 0
  | .de => 1
  | .hlInc => 2
  | .hlDec => 3

/-- The code of the ALU operation field (30_encoding.md R168). -/
def AluOp.code (o : AluOp) : Nat :=
  match o with
  | .add => 0
  | .adc => 1
  | .sub => 2
  | .sbc => 3
  | .and => 4
  | .xor => 5
  | .or => 6
  | .cp => 7

/-- The code of the rotate and shift field (30_encoding.md R170). -/
def ShiftOp.code (o : ShiftOp) : Nat :=
  match o with
  | .rlc => 0
  | .rrc => 1
  | .rl => 2
  | .rr => 3
  | .sla => 4
  | .sra => 5
  | .swap => 6
  | .srl => 7

/-- The byte of an unassigned opcode (30_encoding.md R178). -/
def Unassigned.byte (u : Unassigned) : Byte :=
  match u with
  | .xD3 => 0xD3
  | .xDB => 0xDB
  | .xDD => 0xDD
  | .xE3 => 0xE3
  | .xE4 => 0xE4
  | .xEB => 0xEB
  | .xEC => 0xEC
  | .xED => 0xED
  | .xF4 => 0xF4
  | .xFC => 0xFC
  | .xFD => 0xFD

namespace Machine

/-! ### What a bus write can change -/

/-- A bus write to `a` can change what `b` reads as: `b` is `a` itself, or `a` is one of the addresses whose write
reaches further (20_memory.md R113, R119). An MBC1 bank select reaches the switchable bank; LYC reaches STAT and IF
through the coincidence check; DMA reaches OAM; the boot-ROM disable, while the overlay is in place, reaches the 256
overlaid bytes of ROM (seen in the switchable bank too only if rom_bank were 0, which 10_state.md R85 excludes). -/
def State.reaches (s : State) (a b : Word) : Bool :=
  b == a ||
  match route a with
  | .romFixed => s.cart.isMbc1 && decide (0x2000 ≤ a.toNat) && route b == .romBanked
  | .lyc => route b == .stat || route b == .ifReg
  | .dma => route b == .oam
  | .bootDisable =>
    !s.cart.disableBootrom &&
      match route b with
      | .romFixed => decide (b.toNat < 0x100)
      | .romBanked => decide (s.cart.bankOffset b < 0x100)
      | _ => false
  | _ => false

/-! ### Frames -/

/-- Nothing outside the CPU's registers changed, but for the cost returned, and every byte reads as before. -/
def OnlyCpu (s t : State) : Prop :=
  t = { s with cpu := t.cpu, cost := t.cost } ∧ ∀ b : Word, t.busRead b = s.busRead b

/-- Outside the CPU's registers and the cost returned, `t` is `s` after one bus write of v to `a`. Every byte that
this write does not reach reads as before, and plain memory at `a` reads v (in a canonical memory, which every step
keeps). -/
def OnlyStore (s t : State) (a : Word) (v : Byte) : Prop :=
  t = { s.busWrite a v with cpu := t.cpu, cost := t.cost } ∧
  (∀ b : Word, s.reaches a b = false → t.busRead b = s.busRead b) ∧
  (Memory.wf s.mem = true → (route a).isMemory = true → t.busRead a = v)

/-- As `OnlyStore`, for a bus write of v to `a` and after it one of w to `a'`. -/
def OnlyStores (s t : State) (a : Word) (v : Byte) (a' : Word) (w : Byte) : Prop :=
  t = { (s.busWrite a v).busWrite a' w with cpu := t.cpu, cost := t.cost } ∧
  (∀ b : Word, s.reaches a b = false → s.reaches a' b = false → t.busRead b = s.busRead b) ∧
  (Memory.wf s.mem = true → (route a).isMemory = true → s.reaches a' a = false → t.busRead a = v) ∧
  (Memory.wf s.mem = true → (route a').isMemory = true → t.busRead a' = w)

/-- Every 8-bit register but F and those listed is unchanged. -/
def KeepsR8 (s t : State) (changed : List R8) : Prop :=
  ∀ r : R8, r ≠ .atHl → r ∉ changed → t.readR8 r = s.readR8 r

/-- Only the 8-bit registers listed may change: F, SP, PC, every other register, every byte of memory and the rest
of the state are as before. -/
def OnlyR8 (s t : State) (changed : List R8) : Prop :=
  KeepsR8 s t changed ∧ t.cpu.f = s.cpu.f ∧ t.cpu.sp = s.cpu.sp ∧ t.cpu.pc = s.cpu.pc ∧ OnlyCpu s t

/-- Only F and the 8-bit registers listed may change. -/
def OnlyR8F (s t : State) (changed : List R8) : Prop :=
  KeepsR8 s t changed ∧ t.cpu.sp = s.cpu.sp ∧ t.cpu.pc = s.cpu.pc ∧ OnlyCpu s t

/-- Every pair rr but those listed, and A and PC, are unchanged; so are memory and the rest of the state. F may
change. -/
def OnlyRRF (s t : State) (changed : List RR) : Prop :=
  (∀ r : RR, r ∉ changed → t.readRR r = s.readRR r) ∧ t.cpu.a = s.cpu.a ∧ t.cpu.pc = s.cpu.pc ∧ OnlyCpu s t

/-- As `OnlyRRF`, and F is unchanged too. -/
def OnlyRR (s t : State) (changed : List RR) : Prop := OnlyRRF s t changed ∧ t.cpu.f = s.cpu.f

/-- The four flags of `t`, and F's low nibble 0 (10_state.md R42, R43). -/
def FlagsAre (t : State) (z n h c : Bool) : Prop :=
  t.flagZ = z ∧ t.flagN = n ∧ t.flagH = h ∧ t.flagC = c ∧ t.cpu.f.extractLsb' 0 4 = 0

/-! ### Results in whole numbers -/

/-- The flags an addition of two bytes and a carry leaves, by whole numbers (41_alu8.md R240): the half-carry is the
carry out of the low nibbles. -/
def AddFlags (t : State) (a b cin : Nat) : Prop :=
  FlagsAre t (decide ((a + b + cin) % 256 = 0)) false (decide (a % 16 + b % 16 + cin > 15)) (decide (a + b + cin > 255))

/-- The flags a subtraction of a byte and a borrow leaves, by whole numbers (41_alu8.md R241). -/
def SubFlags (t : State) (a b cin : Nat) : Prop :=
  FlagsAre t (decide (((a : Int) - b - cin) % 256 = 0)) true (decide (a % 16 < b % 16 + cin)) (decide (a < b + cin))

/-- The value of a rotate, shift or swap of the byte v with the old carry c, by whole numbers (43_rotate_shift.md R320
to R327). -/
def shiftValue (o : ShiftOp) (v c : Nat) : Nat :=
  match o with
  | .rlc => 2 * v % 256 + v / 128
  | .rrc => v / 2 + 128 * (v % 2)
  | .rl => 2 * v % 256 + c
  | .rr => v / 2 + 128 * c
  | .sla => 2 * v % 256
  | .sra => v / 2 + 128 * (v / 128)
  | .swap => 16 * (v % 16) + v / 16
  | .srl => v / 2

/-- The bit a rotate or shift moves out of the byte v (43_rotate_shift.md R320 to R327). -/
def shiftOut (o : ShiftOp) (v : Nat) : Bool :=
  match o with
  | .rlc | .rl | .sla => decide (128 ≤ v)
  | .rrc | .rr | .sra | .srl => decide (v % 2 = 1)
  | .swap => false

/-- `cond(cc)` as a proposition on the flag bits of F (30_encoding.md R166). -/
def CondHolds (s : State) (cc : CC) : Prop :=
  match cc with
  | .nz => s.cpu.f.getLsbD 7 = false
  | .z => s.cpu.f.getLsbD 7 = true
  | .nc => s.cpu.f.getLsbD 4 = false
  | .c => s.cpu.f.getLsbD 4 = true

/-! ### The invariant -/

/-- Memory, ROM, cart_low and the frame buffer are in their canonical form; memory lists addresses of plain memory
only, and the frame buffer lines of 160 shades below line 144. -/
abbrev State.StoresOk (s : State) : Prop :=
  Memory.wf s.mem = true ∧ Memory.wf s.cart.rom = true ∧ Memory.wf s.cart.cartLow = true ∧
  storeWf blankLine s.frame = true ∧
  (∀ c ∈ s.mem, c.1 < 0x10000 ∧ (route (BitVec.ofNat 16 c.1)).isMemory = true) ∧
  (∀ l ∈ s.frame, l.1 < Config.visibleLines ∧ l.2.length = Config.screenWidth)

/-- F's low nibble is 0 (10_state.md R42), a halted CPU has no pending EI, the sub-counters are in range (10_state.md
R56, R60), and rom_bank is never 0 and stays 1 without a bank controller (10_state.md R85, 20_memory.md R121). -/
abbrev State.CoreOk (s : State) : Prop :=
  s.cpu.f.extractLsb' 0 4 = 0 ∧ (s.irq.halted = true → s.irq.eiPending = false) ∧
  s.timer.divSub < 64 ∧ s.timer.timaSub < 256 ∧
  s.cart.romBank ≠ 0 ∧ (s.cart.isMbc1 = false → s.cart.romBank = 1)

/-- The dots a mode lasts (60_exceptions.md R500). -/
def modeBudget (m : Mode) : Nat :=
  match m with
  | .oamScan => 80
  | .draw => 230
  | .hblank => 146
  | .vblank => 4560

/-- STAT agrees with the mode and with LY = LYC (10_state.md R71, 60_exceptions.md R503, R513), the dots left are in
the mode's budget (10_state.md R66), and LY belongs to the mode: 0 to 143 outside v-blank, and in v-blank what the
dots since its start give (60_exceptions.md R504, R506). -/
abbrev State.PpuOk (s : State) : Prop :=
  s.ppu.stat.getLsbD 7 = false ∧ s.ppu.stat.extractLsb' 0 2 = modeNum s.ppu.mode ∧
  s.ppu.stat.getLsbD 2 = (s.ppu.ly == s.ppu.lyc) ∧
  0 < s.ppu.dotsRemaining ∧ s.ppu.dotsRemaining ≤ modeBudget s.ppu.mode ∧
  (s.ppu.mode ≠ .vblank → s.ppu.ly.toNat < 144) ∧
  (s.ppu.mode = .vblank →
    s.ppu.dotsRemaining = 4560 - (s.ppu.vblankDots : Int) ∧
    s.ppu.ly.toNat = 144 + min 9 (s.ppu.vblankDots / 456))

/-- The invariant that every step keeps. -/
abbrev State.Inv (s : State) : Prop := s.StoresOk ∧ s.CoreOk ∧ s.PpuOk

/-! ### The PPU in whole numbers -/

/-- The interrupt 1 that `set_LY(v)` requests: LY changes to LYC, STAT bit 2 was 0 and STAT bit 6 is set
(60_exceptions.md R505, R513). -/
def State.coincidenceRequest (s : State) (v : Byte) : Bool :=
  decide (v ≠ s.ppu.ly) && decide (v = s.ppu.lyc) && !s.ppu.stat.getLsbD 2 && s.ppu.stat.getLsbD 6

/-- STAT bit 2 after `set_LY(v)` (60_exceptions.md R505, R513). -/
def State.coincidenceBit (s : State) (v : Byte) : Bool :=
  if v = s.ppu.ly then s.ppu.stat.getLsbD 2 else decide (v = s.ppu.lyc)

/-- The interrupt 1 that entering a mode requests: STAT bit 3, 4 or 5, and none for DRAW (60_exceptions.md R512). -/
def State.modeRequest (s : State) (m : Mode) : Bool :=
  match m with
  | .hblank => s.ppu.stat.getLsbD 3
  | .vblank => s.ppu.stat.getLsbD 4
  | .oamScan => s.ppu.stat.getLsbD 5
  | .draw => false

/-- The byte at a bus address, as a number. -/
def State.byteAt (s : State) (a : Nat) : Nat := (s.busRead (BitVec.ofNat 16 a)).toNat

/-- The colour index `2*hi[7-c] + lo[7-c]` of column c of the tile line at address a (60_exceptions.md R514). -/
def State.planeIndex (s : State) (a c : Nat) : Nat :=
  2 * (s.byteAt (a + 1) / 2 ^ (7 - c) % 2) + s.byteAt a / 2 ^ (7 - c) % 2

/-- `tile_row(t, r)` (60_exceptions.md R514): from 0x8000 with LCDC bit 4 set; with it clear the index is signed
around 0x9000, so that 128 to 255 stand below it. -/
def State.tileAddress (s : State) (t r : Nat) : Nat :=
  if s.ppu.lcdc.getLsbD 4 then 0x8000 + 16 * t + 2 * r
  else if t < 128 then 0x9000 + 16 * t + 2 * r
  else 0x9000 + 16 * t + 2 * r - 0x1000

/-- The colour index at pixel (px, py) of the layer whose tile map starts at `map` (60_exceptions.md R515, R517). -/
def State.layerIndex (s : State) (map px py : Nat) : Nat :=
  s.planeIndex (s.tileAddress (s.byteAt (map + 32 * (py / 8) + px / 8)) (py % 8)) (px % 8)

/-- The tile map an LCDC bit selects (60_exceptions.md R515, R517). -/
def State.mapOf (s : State) (bit : Nat) : Nat := if s.ppu.lcdc.getLsbD bit then 0x9C00 else 0x9800

/-- The colour index of background and window at column x of line ly (60_exceptions.md R515 to R518): 0 with LCDC bit 0
clear; the window's where LCDC bit 5 is set, ly is at least WY and x at least WX - 7; else the background's, which
scrolls and wraps at 256. -/
def State.backIndex (s : State) (ly x : Nat) : Nat :=
  if s.ppu.lcdc.getLsbD 0 = false then 0
  else if s.ppu.lcdc.getLsbD 5 = true ∧ s.ppu.wy.toNat ≤ ly ∧ s.ppu.wx.toNat ≤ x + 7 then
    s.layerIndex (s.mapOf 6) (x + 7 - s.ppu.wx.toNat) (ly - s.ppu.wy.toNat)
  else s.layerIndex (s.mapOf 3) ((x + s.ppu.scx.toNat) % 256) ((ly + s.ppu.scy.toNat) % 256)

/-- The shade of background and window: the index through BGP, and 0 with LCDC bit 0 clear (60_exceptions.md R516,
R518). -/
def State.backShade (s : State) (ly x : Nat) : Nat :=
  if s.ppu.lcdc.getLsbD 0 = false then 0 else s.ppu.bgp.toNat / 4 ^ s.backIndex ly x % 4

/-- The sprite height of LCDC bit 2 (60_exceptions.md R519). -/
def State.heightOf (s : State) : Nat := if s.ppu.lcdc.getLsbD 2 then 16 else 8

/-- The colour index of sprite i at column x of line ly, where it covers both (60_exceptions.md R520): Y flip with
attribute bit 6, X flip with bit 5, in 8x16 mode the tile pair T & 0xFE, tiles from 0x8000. -/
def State.spriteIndex (s : State) (ly x i : Nat) : Nat :=
  let y := s.byteAt (0xFE00 + 4 * i)
  let xb := s.byteAt (0xFE00 + 4 * i + 1)
  let t := s.byteAt (0xFE00 + 4 * i + 2)
  let attr := s.byteAt (0xFE00 + 4 * i + 3)
  let row := if attr / 64 % 2 = 1 then s.heightOf - 1 - (ly + 16 - y) else ly + 16 - y
  let col := if attr / 32 % 2 = 1 then 7 - (x + 8 - xb) else x + 8 - xb
  let tile := if s.heightOf = 16 then t / 2 * 2 + row / 8 else t
  s.planeIndex (0x8000 + 16 * tile + 2 * (row % 8)) col

/-! ### The end of a run -/

/-- A dead halt: no interrupt can wake the CPU (60_exceptions.md R545). -/
def State.deadHalt (s : State) : Bool := s.irq.halted && (s.irq.ieReg.extractLsb' 0 5 == 0)

/-- What a dead halt keeps for ever (60_exceptions.md R545): the registers, IME, IE, every RAM byte, the cartridge and
rom_bank, and of the devices everything but DIV, TIMA and their sub-counters, IF, LY, STAT[2:0], the PPU's mode and
counters, the frame buffer, `cycles`, and the host's buttons. -/
def SameProgramState (s t : State) : Prop :=
  t.cpu = s.cpu ∧ t.irq = { s.irq with ifReg := t.irq.ifReg } ∧ t.mem = s.mem ∧ t.cart = s.cart ∧
  t.timer = { s.timer with
    div := t.timer.div, divSub := t.timer.divSub, tima := t.timer.tima, timaSub := t.timer.timaSub } ∧
  t.ppu = { s.ppu with
    mode := t.ppu.mode, dotsRemaining := t.ppu.dotsRemaining, vblankDots := t.ppu.vblankDots
    frameCount := t.ppu.frameCount, ly := t.ppu.ly, stat := t.ppu.stat } ∧
  t.ppu.stat.extractLsb' 3 5 = s.ppu.stat.extractLsb' 3 5 ∧
  t.joypad.p1Select = s.joypad.p1Select

end Machine

end Sys2Proof
end

