-- ==== Sys2Proof/Certificates/Slice0/Obligations.lean ====
section
/-! DEFINITION. The statements for the provers. Each says in its docstring the rules of spec/ it formalises and the
constructors of `Instr` it covers. A statement about `exec` speaks of a state whose PC is past the instruction's bytes
(00_scope.md R19, log entry 6); `StepRunsDecodedInstruction` says that `step` calls it so. -/

open Sys2Proof Sys2Proof.Machine Sys2Proof.Bits

/-! ### Decoding -/

/-- Decoding the encoding of a well-formed instruction gives it back, with every immediate at every value, and leaves
the bytes after it (30_encoding.md R160 to R178). All 512 constructors but `prefixCb`. -/
def Obligations.DecodeOfEncode : Prop :=
  ∀ (i : Instr) (rest : List Byte), i.wellFormed = true → decode (encode i ++ rest) = .ok (i, rest)

/-- What the decoder reads is well formed, and its encoding is the bytes that were read: no bit of the bytes is
dropped, and no two encodings share bytes (30_encoding.md R160 to R180). -/
def Obligations.EncodeOfDecode : Prop :=
  ∀ (bytes rest : List Byte) (i : Instr),
    decode bytes = .ok (i, rest) → i.wellFormed = true ∧ encode i ++ rest = bytes

/-- Every byte value decodes, and the decoder is total on any byte stream (what 30_encoding.md R181 derives from R175,
R176 and R178), with the lengths 1, 2 and 3 of R160 and R177. -/
def Obligations.DecoderTotal : Prop :=
  ∀ (b0 b1 b2 : Byte) (rest : List Byte),
    1 ≤ opLength b0 ∧ opLength b0 ≤ 3 ∧
    ∃ i : Instr, decode (b0 :: b1 :: b2 :: rest) = .ok (i, (b0 :: b1 :: b2 :: rest).drop (opLength b0)) ∧
      i.wellFormed = true ∧ (encode i).length = opLength b0

/-- A few words written out from 30_encoding.md R175, R176 and R178 decode to the instructions they stand for. -/
def Obligations.DecodeSampleWords : Prop :=
  decode [0x41] = .ok (.ldBC, []) ∧ decode [0x36, 0x5A] = .ok (.ldAtHlN8 0x5A, []) ∧
  decode [0x08, 0x34, 0x12] = .ok (.ldAtA16Sp 0x1234, []) ∧ decode [0x76] = .ok (.halt, []) ∧
  decode [0x8E] = .ok (.adcAAtHl, []) ∧ decode [0xE8, 0x80] = .ok (.addSpE8 0x80, []) ∧
  decode [0x17] = .ok (.rla, []) ∧ decode [0xCB, 0x7E] = .ok (.bit7AtHl, []) ∧
  decode [0xCB, 0xCB] = .ok (.set1E, []) ∧ decode [0xD4, 0xCD, 0xAB] = .ok (.callNcA16 0xABCD, []) ∧
  decode [0x10, 0x00] = .ok (.stop 0, []) ∧ decode [0xFD] = .ok (.unassignedFD, [])

/-! ### The step -/

/-- When the CPU is not halted and the bytes at PC decode to i, the step is `exec` of i on the state after the EI
delay with PC moved past i's bytes, then the end of the CPU step (timer, interrupts, cycles), then the PPU's advance by
the step's total, then the host's input (60_exceptions.md R430, R431; 30_encoding.md R161). -/
def Obligations.StepRunsDecodedInstruction : Prop :=
  ∀ (s t : State) (i : Instr) (rest : List Byte),
    s.irq.halted = false →
    decode [s.busRead s.cpu.pc, s.busRead (s.cpu.pc + 1), s.busRead (s.cpu.pc + 2)] = .ok (i, rest) →
    exec i (s.eiDelay.setPc (s.cpu.pc + BitVec.ofNat 16 (encode i).length)) = .next t →
    step s = .next (t.endStep.ppuAdvance t.endStep.cost).applyHostInput

/-- The end of the CPU step (60_exceptions.md R430): the timer advances by what `execute` returned, then the
interrupts are evaluated, and 5 cycles are added to what the step returns and to `cycles`, not to the timer, when an
interrupt is dispatched. -/
def Obligations.EndOfStepAccounts : Prop :=
  ∀ t : State,
    let u := t.timerAdvance t.cost
    let extra := if u.irq.ime = true ∧ (u.irq.ieReg &&& u.irq.ifReg).extractLsb' 0 5 ≠ 0 then 5 else 0
    t.endStep = { u.interruptEvaluate with
      cycles := t.cycles + BitVec.ofNat 64 (t.cost + extra), cost := t.cost + extra }

/-- 60_exceptions.md R432: no step traps or stops; every step gives a next state. Every instruction does, in 1 to 6
cycles, and a step takes 1 to 11 (R508) and adds them to `cycles` (10_state.md R54). -/
def Obligations.EveryStepCompletes : Prop :=
  (∀ (i : Instr) (s : State), ∃ t, exec i s = .next t ∧ 1 ≤ t.cost ∧ t.cost ≤ 6) ∧
  (∀ s : State, ∃ t, step s = .next t ∧ 1 ≤ t.cost ∧ t.cost ≤ 11 ∧ t.cycles = s.cycles + BitVec.ofNat 64 t.cost)

/-- A halted step fetches nothing and costs 1 cycle (60_exceptions.md R430, R445): while nothing enabled is pending
after its timer advance, the registers and memory stay and the CPU stays halted; otherwise it wakes whatever IME is,
with IME set through a dispatch, and with IME clear with registers, memory and IF as they are. -/
def Obligations.HaltedStep : Prop :=
  ∀ s : State, s.irq.halted = true → s.irq.eiPending = false →
    let u := s.timerAdvance 1
    let pending := (u.irq.ieReg &&& u.irq.ifReg).extractLsb' 0 5
    ∃ e : State, step s = .next (e.ppuAdvance e.cost).applyHostInput ∧
      (pending = 0 → e = { u with cost := 1, cycles := s.cycles + 1 }) ∧
      (pending ≠ 0 → s.irq.ime = false →
        e = { u with irq := { u.irq with halted := false }, cost := 1, cycles := s.cycles + 1 }) ∧
      (pending ≠ 0 → s.irq.ime = true →
        e.irq.halted = false ∧ e.irq.ime = false ∧ e.cost = 6 ∧ e.cycles = s.cycles + 6 ∧
        e.cpu.sp = s.cpu.sp - 2 ∧
        ∃ k : Nat, k < 5 ∧ pending.getLsbD k = true ∧ e.cpu.pc = BitVec.ofNat 16 (0x40 + 8 * k))

/-- 46_system.md R414 and 70_reset_and_hazards.md R571: the step that runs EI leaves IME clear, so no interrupt is
taken before the next instruction, and the next step starts with IME set. -/
def Obligations.EiTakesEffectAfterNextInstruction : Prop :=
  ∀ s : State, s.irq.halted = false → s.irq.ime = false → s.irq.eiPending = false →
    s.busRead s.cpu.pc = 0xFB →
    ∃ t, step s = .next t ∧ t.irq.ime = false ∧ t.irq.eiPending = true ∧ t.irq.halted = false ∧
      t.cpu.pc = s.cpu.pc + 1 ∧ t.cpu.sp = s.cpu.sp ∧ t.mem = s.mem ∧
      t.eiDelay.irq.ime = true ∧ t.eiDelay.irq.eiPending = false

/-! ### Loads (40_load.md) -/

/-- LD r,r', LD r,(HL) and LD r,n8 (40_load.md R200, R201, R202): the 56 constructors ldBB to ldAA whose destination is
a register, ldBAtHl, ldCAtHl, ldDAtHl, ldEAtHl, ldHAtHl, ldLAtHl and ldAAtHl among them, and ldBN8, ldCN8, ldDN8,
ldEN8, ldHN8, ldLN8, ldAN8. -/
def Obligations.LoadRegister : Prop :=
  (∀ (d r : R8) (s : State), d ≠ .atHl →
     encode (Instr.ldR8R8 d r) = [BitVec.ofNat 8 (0x40 + 8 * d.code + r.code)] ∧
     ∃ t, exec (Instr.ldR8R8 d r) s = .next t ∧ t.cost = (if r = .atHl then 2 else 1) ∧
       t.readR8 d = s.readR8 r ∧ OnlyR8 s t [d]) ∧
  (∀ (d : R8) (n : Byte) (s : State), d ≠ .atHl →
     encode (Instr.ldR8N8 d n) = [BitVec.ofNat 8 (0x06 + 8 * d.code), n] ∧
     ∃ t, exec (Instr.ldR8N8 d n) s = .next t ∧ t.cost = 2 ∧ t.readR8 d = n ∧ OnlyR8 s t [d])

/-- LD (HL),r (40_load.md R203) and LD (HL),n8 (R204): ldAtHlB, ldAtHlC, ldAtHlD, ldAtHlE, ldAtHlH, ldAtHlL, ldAtHlA
and ldAtHlN8. No CPU register changes. -/
def Obligations.StoreAtHl : Prop :=
  (∀ (r : R8) (s : State), r ≠ .atHl →
    encode (Instr.ldR8R8 .atHl r) = [BitVec.ofNat 8 (0x70 + r.code)] ∧
    ∃ t, exec (Instr.ldR8R8 .atHl r) s = .next t ∧ t.cost = 2 ∧ t.cpu = s.cpu ∧ OnlyStore s t s.hl (s.readR8 r)) ∧
  (∀ (n : Byte) (s : State),
    encode (.ldAtHlN8 n) = [0x36, n] ∧
    ∃ t, exec (.ldAtHlN8 n) s = .next t ∧ t.cost = 3 ∧ t.cpu = s.cpu ∧ OnlyStore s t s.hl n)

/-- LD A,(BC), LD A,(DE), LD A,(HL+), LD A,(HL-) (40_load.md R205, R206, R209, R210) and the stores LD (BC),A,
LD (DE),A, LD (HL+),A, LD (HL-),A (R207, R208, R211, R212): ldAAtBc, ldAAtDe, ldAAtHlInc, ldAAtHlDec, ldAtBcA, ldAtDeA,
ldAtHlIncA, ldAtHlDecA. -/
def Obligations.LoadAndStoreAIndirect : Prop :=
  (∀ (m : Ind) (s : State),
     encode (Instr.ldAInd m) = [BitVec.ofNat 8 (0x0A + 16 * m.code)] ∧
     ∃ t, exec (Instr.ldAInd m) s = .next t ∧ t.cost = 2 ∧ OnlyR8 s t [.a, .h, .l] ∧
       match m with
       | .bc => t.cpu.a = s.busRead s.bc ∧ t.hl = s.hl
       | .de => t.cpu.a = s.busRead s.de ∧ t.hl = s.hl
       | .hlInc => t.cpu.a = s.busRead s.hl ∧ t.hl = s.hl + 1
       | .hlDec => t.cpu.a = s.busRead s.hl ∧ t.hl = s.hl - 1) ∧
  (∀ (m : Ind) (s : State),
     encode (Instr.ldIndA m) = [BitVec.ofNat 8 (0x02 + 16 * m.code)] ∧
     ∃ t, exec (Instr.ldIndA m) s = .next t ∧ t.cost = 2 ∧
       KeepsR8 s t [.h, .l] ∧ t.cpu.f = s.cpu.f ∧ t.cpu.sp = s.cpu.sp ∧ t.cpu.pc = s.cpu.pc ∧
       match m with
       | .bc => t.hl = s.hl ∧ OnlyStore s t s.bc s.cpu.a
       | .de => t.hl = s.hl ∧ OnlyStore s t s.de s.cpu.a
       | .hlInc => t.hl = s.hl + 1 ∧ OnlyStore s t s.hl s.cpu.a
       | .hlDec => t.hl = s.hl - 1 ∧ OnlyStore s t s.hl s.cpu.a)

/-- LD A,(a16), LDH A,(a8), LDH A,(C) (40_load.md R213, R217, R219) and LD (a16),A, LDH (a8),A, LDH (C),A (R214, R216,
R218): ldAAtA16, ldhAAtA8, ldhAAtC, ldAtA16A, ldhAtA8A, ldhAtCA. -/
def Obligations.LoadAndStoreAAbsolute : Prop :=
  (∀ (a : Word) (n : Byte) (s : State),
     (encode (.ldAAtA16 a) = [0xFA, lo a, hi a] ∧
       ∃ t, exec (.ldAAtA16 a) s = .next t ∧ t.cost = 4 ∧ t.cpu.a = s.busRead a ∧ OnlyR8 s t [.a]) ∧
     (encode (.ldhAAtA8 n) = [0xF0, n] ∧
       ∃ t, exec (.ldhAAtA8 n) s = .next t ∧ t.cost = 3 ∧
         t.cpu.a = s.busRead (BitVec.ofNat 16 (0xFF00 + n.toNat)) ∧ OnlyR8 s t [.a]) ∧
     (encode .ldhAAtC = [0xF2] ∧
       ∃ t, exec .ldhAAtC s = .next t ∧ t.cost = 2 ∧
         t.cpu.a = s.busRead (BitVec.ofNat 16 (0xFF00 + s.cpu.c.toNat)) ∧ OnlyR8 s t [.a])) ∧
  (∀ (a : Word) (n : Byte) (s : State),
     (encode (.ldAtA16A a) = [0xEA, lo a, hi a] ∧
       ∃ t, exec (.ldAtA16A a) s = .next t ∧ t.cost = 4 ∧ t.cpu = s.cpu ∧ OnlyStore s t a s.cpu.a) ∧
     (encode (.ldhAtA8A n) = [0xE0, n] ∧
       ∃ t, exec (.ldhAtA8A n) s = .next t ∧ t.cost = 3 ∧ t.cpu = s.cpu ∧
         OnlyStore s t (BitVec.ofNat 16 (0xFF00 + n.toNat)) s.cpu.a) ∧
     (encode .ldhAtCA = [0xE2] ∧
       ∃ t, exec .ldhAtCA s = .next t ∧ t.cost = 2 ∧ t.cpu = s.cpu ∧
         OnlyStore s t (BitVec.ofNat 16 (0xFF00 + s.cpu.c.toNat)) s.cpu.a))

/-- LD rr,n16 and LD SP,HL (40_load.md R220, R222): ldBcN16, ldDeN16, ldHlN16, ldSpN16, ldSpHl; and LD (a16),SP (R221):
ldAtA16Sp, where the low byte goes to a, the high byte to a + 1. -/
def Obligations.LoadAndStorePairs : Prop :=
  ((∀ (r : RR) (v : Word) (s : State),
     encode (Instr.ldRrN16 r v) = [BitVec.ofNat 8 (0x01 + 16 * r.code), lo v, hi v] ∧
     ∃ t, exec (Instr.ldRrN16 r v) s = .next t ∧ t.cost = 3 ∧ t.readRR r = v ∧ OnlyRR s t [r]) ∧
   (∀ s : State,
     encode .ldSpHl = [0xF9] ∧
     ∃ t, exec .ldSpHl s = .next t ∧ t.cost = 2 ∧ t.cpu.sp = s.hl ∧ OnlyRR s t [.sp])) ∧
  (∀ (a : Word) (s : State),
     encode (.ldAtA16Sp a) = [0x08, lo a, hi a] ∧
     ∃ t, exec (.ldAtA16Sp a) s = .next t ∧ t.cost = 5 ∧ t.cpu = s.cpu ∧
       OnlyStores s t a (BitVec.ofNat 8 (s.cpu.sp.toNat % 256)) (a + 1) (BitVec.ofNat 8 (s.cpu.sp.toNat / 256)))

/-- PUSH qq (40_load.md R230): pushBc, pushDe, pushHl, pushAf. The high byte goes to SP - 1, then the low byte to
SP - 2; PUSH AF pushes F with its low nibble 0, which F always has (10_state.md R42; an invariant). -/
def Obligations.PushStoresPair : Prop :=
  ∀ (q : QQ) (s : State),
    encode (Instr.push q) = [BitVec.ofNat 8 (0xC5 + 16 * q.code)] ∧
    ∃ t, exec (Instr.push q) s = .next t ∧ t.cost = 4 ∧ t.cpu = { s.cpu with sp := s.cpu.sp - 2 } ∧
      OnlyStores s t (s.cpu.sp - 1) (hi (s.readQQ q)) (s.cpu.sp - 2) (lo (s.readQQ q)) ∧
      (q = .af → s.cpu.f.extractLsb' 0 4 = 0 → (lo (s.readQQ q)).extractLsb' 0 4 = 0)

/-- POP qq (40_load.md R231) and POP AF (R232), which drops the low nibble of F: popBc, popDe, popHl, popAf. -/
def Obligations.PopLoadsPair : Prop :=
  ∀ (q : QQ) (s : State),
    encode (Instr.pop q) = [BitVec.ofNat 8 (0xC1 + 16 * q.code)] ∧
    ∃ t, exec (Instr.pop q) s = .next t ∧ t.cost = 3 ∧ t.cpu.sp = s.cpu.sp + 2 ∧ t.cpu.pc = s.cpu.pc ∧
      t.readQQ q = (cat (s.busRead (s.cpu.sp + 1)) (s.busRead s.cpu.sp)) &&& (if q = .af then 0xFFF0 else 0xFFFF) ∧
      (∀ q' : QQ, q' ≠ q → t.readQQ q' = s.readQQ q') ∧ OnlyCpu s t

/-! ### 8-bit arithmetic (41_alu8.md) -/

/-- ADD and ADC (41_alu8.md R240, R250 to R255): addAB to addAA, addAN8, adcAB to adcAA, adcAN8 (18 constructors). -/
def Obligations.AddWithCarry : Prop :=
  ∀ (r : R8) (n : Byte) (s : State),
    let cin := s.flagC.toNat
    let a := s.cpu.a.toNat
    let v := (s.readR8 r).toNat
    (encode (Instr.aluR8 .add r) = [BitVec.ofNat 8 (0x80 + r.code)] ∧
      ∃ t, exec (Instr.aluR8 .add r) s = .next t ∧ t.cost = (if r = .atHl then 2 else 1) ∧
        t.cpu.a.toNat = (a + v) % 256 ∧ AddFlags t a v 0 ∧ OnlyR8F s t [.a]) ∧
    (encode (.addAN8 n) = [0xC6, n] ∧
      ∃ t, exec (.addAN8 n) s = .next t ∧ t.cost = 2 ∧
        t.cpu.a.toNat = (a + n.toNat) % 256 ∧ AddFlags t a n.toNat 0 ∧ OnlyR8F s t [.a]) ∧
    (encode (Instr.aluR8 .adc r) = [BitVec.ofNat 8 (0x88 + r.code)] ∧
      ∃ t, exec (Instr.aluR8 .adc r) s = .next t ∧ t.cost = (if r = .atHl then 2 else 1) ∧
        t.cpu.a.toNat = (a + v + cin) % 256 ∧ AddFlags t a v cin ∧ OnlyR8F s t [.a]) ∧
    (encode (.adcAN8 n) = [0xCE, n] ∧
      ∃ t, exec (.adcAN8 n) s = .next t ∧ t.cost = 2 ∧
        t.cpu.a.toNat = (a + n.toNat + cin) % 256 ∧ AddFlags t a n.toNat cin ∧ OnlyR8F s t [.a])

/-- SUB and SBC (41_alu8.md R241, R256 to R261): subB to subA, subN8, sbcAB to sbcAA, sbcAN8 (18 constructors). -/
def Obligations.SubtractWithBorrow : Prop :=
  ∀ (r : R8) (n : Byte) (s : State),
    let cin := s.flagC.toNat
    let a := s.cpu.a.toNat
    let v := (s.readR8 r).toNat
    (encode (Instr.aluR8 .sub r) = [BitVec.ofNat 8 (0x90 + r.code)] ∧
      ∃ t, exec (Instr.aluR8 .sub r) s = .next t ∧ t.cost = (if r = .atHl then 2 else 1) ∧
        (t.cpu.a.toNat : Int) = ((a : Int) - v) % 256 ∧ SubFlags t a v 0 ∧ OnlyR8F s t [.a]) ∧
    (encode (.subN8 n) = [0xD6, n] ∧
      ∃ t, exec (.subN8 n) s = .next t ∧ t.cost = 2 ∧
        (t.cpu.a.toNat : Int) = ((a : Int) - n.toNat) % 256 ∧ SubFlags t a n.toNat 0 ∧ OnlyR8F s t [.a]) ∧
    (encode (Instr.aluR8 .sbc r) = [BitVec.ofNat 8 (0x98 + r.code)] ∧
      ∃ t, exec (Instr.aluR8 .sbc r) s = .next t ∧ t.cost = (if r = .atHl then 2 else 1) ∧
        (t.cpu.a.toNat : Int) = ((a : Int) - v - cin) % 256 ∧ SubFlags t a v cin ∧ OnlyR8F s t [.a]) ∧
    (encode (.sbcAN8 n) = [0xDE, n] ∧
      ∃ t, exec (.sbcAN8 n) s = .next t ∧ t.cost = 2 ∧
        (t.cpu.a.toNat : Int) = ((a : Int) - n.toNat - cin) % 256 ∧ SubFlags t a n.toNat cin ∧ OnlyR8F s t [.a])

/-- AND, XOR and OR (41_alu8.md R262 to R270): andB to andA, andN8, xorB to xorA, xorN8, orB to orA, orN8
(27 constructors). -/
def Obligations.LogicalOperations : Prop :=
  ∀ (op : AluOp) (r : R8) (n : Byte) (s : State), op = .and ∨ op = .xor ∨ op = .or →
    let result (v : Byte) : Byte :=
      if op = .and then s.cpu.a &&& v else if op = .xor then s.cpu.a ^^^ v else s.cpu.a ||| v
    (encode (Instr.aluR8 op r) = [BitVec.ofNat 8 (0x80 + 8 * op.code + r.code)] ∧
      ∃ t, exec (Instr.aluR8 op r) s = .next t ∧ t.cost = (if r = .atHl then 2 else 1) ∧
        t.cpu.a = result (s.readR8 r) ∧
        FlagsAre t (decide (result (s.readR8 r) = 0)) false (decide (op = .and)) false ∧ OnlyR8F s t [.a]) ∧
    (encode (Instr.aluN8 op n) = [BitVec.ofNat 8 (0xC6 + 8 * op.code), n] ∧
      ∃ t, exec (Instr.aluN8 op n) s = .next t ∧ t.cost = 2 ∧ t.cpu.a = result n ∧
        FlagsAre t (decide (result n = 0)) false (decide (op = .and)) false ∧ OnlyR8F s t [.a])

/-- CP (41_alu8.md R271 to R273): cpB to cpA and cpN8 (9 constructors). Only F changes. -/
def Obligations.CompareSetsFlags : Prop :=
  ∀ (r : R8) (n : Byte) (s : State),
    (encode (Instr.aluR8 .cp r) = [BitVec.ofNat 8 (0xB8 + r.code)] ∧
      ∃ t, exec (Instr.aluR8 .cp r) s = .next t ∧ t.cost = (if r = .atHl then 2 else 1) ∧
        SubFlags t s.cpu.a.toNat (s.readR8 r).toNat 0 ∧ OnlyR8F s t []) ∧
    (encode (.cpN8 n) = [0xFE, n] ∧
      ∃ t, exec (.cpN8 n) s = .next t ∧ t.cost = 2 ∧ SubFlags t s.cpu.a.toNat n.toNat 0 ∧ OnlyR8F s t [])

/-- INC and DEC of a register (41_alu8.md R245, R246, R274, R276): incB, incC, incD, incE, incH, incL, incA, decB, decC,
decD, decE, decH, decL, decA; and INC (HL), DEC (HL) (R275, R277): incAtHl, decAtHl, where of the registers only F
changes. C is unchanged. -/
def Obligations.IncrementAndDecrement : Prop :=
  (∀ (d : R8) (s : State), d ≠ .atHl →
     let v := (s.readR8 d).toNat
     (encode (Instr.incR8 d) = [BitVec.ofNat 8 (0x04 + 8 * d.code)] ∧
       ∃ t, exec (Instr.incR8 d) s = .next t ∧ t.cost = 1 ∧ (t.readR8 d).toNat = (v + 1) % 256 ∧
         FlagsAre t (decide (v = 255)) false (decide (v % 16 = 15)) s.flagC ∧ OnlyR8F s t [d]) ∧
     (encode (Instr.decR8 d) = [BitVec.ofNat 8 (0x05 + 8 * d.code)] ∧
       ∃ t, exec (Instr.decR8 d) s = .next t ∧ t.cost = 1 ∧ (t.readR8 d).toNat = (v + 255) % 256 ∧
         FlagsAre t (decide (v = 1)) true (decide (v % 16 = 0)) s.flagC ∧ OnlyR8F s t [d])) ∧
  (∀ s : State,
     let v := (s.busRead s.hl).toNat
     (encode .incAtHl = [0x34] ∧
       ∃ t, exec .incAtHl s = .next t ∧ t.cost = 3 ∧ OnlyStore s t s.hl (BitVec.ofNat 8 (v + 1)) ∧
         FlagsAre t (decide (v = 255)) false (decide (v % 16 = 15)) s.flagC ∧ t.cpu = { s.cpu with f := t.cpu.f }) ∧
     (encode .decAtHl = [0x35] ∧
       ∃ t, exec .decAtHl s = .next t ∧ t.cost = 3 ∧ OnlyStore s t s.hl (BitVec.ofNat 8 (v + 255)) ∧
         FlagsAre t (decide (v = 1)) true (decide (v % 16 = 0)) s.flagC ∧ t.cpu = { s.cpu with f := t.cpu.f }))

/-- DAA, CPL, SCF, CCF (41_alu8.md R247, R278 to R281): daa, cpl, scf, ccf. DAA's correction is 6 for the low digit
and 0x60 for the high one, added after an addition and subtracted after a subtraction. -/
def Obligations.DecimalAdjustAndFlagOperations : Prop :=
  ∀ s : State,
    let a := s.cpu.a.toNat
    let low := if s.flagH = true ∨ (s.flagN = false ∧ a % 16 > 9) then 6 else 0
    let carry := decide (s.flagC = true ∨ (s.flagN = false ∧ a > 0x99))
    let high := if carry = true then 0x60 else 0
    let r : Int := if s.flagN then (a : Int) - high - low else a + high + low
    (encode .daa = [0x27] ∧
      ∃ t, exec .daa s = .next t ∧ t.cost = 1 ∧ (t.cpu.a.toNat : Int) = r % 256 ∧
        FlagsAre t (decide (r % 256 = 0)) s.flagN false carry ∧ OnlyR8F s t [.a]) ∧
    (encode .cpl = [0x2F] ∧
      ∃ t, exec .cpl s = .next t ∧ t.cost = 1 ∧ t.cpu.a.toNat = 255 - a ∧
        FlagsAre t s.flagZ true true s.flagC ∧ OnlyR8F s t [.a]) ∧
    (encode .scf = [0x37] ∧
      ∃ t, exec .scf s = .next t ∧ t.cost = 1 ∧ FlagsAre t s.flagZ false false true ∧ OnlyR8F s t []) ∧
    (encode .ccf = [0x3F] ∧
      ∃ t, exec .ccf s = .next t ∧ t.cost = 1 ∧ FlagsAre t s.flagZ false false (!s.flagC) ∧ OnlyR8F s t [])

/-- What ADC and DAA are for (derived from 41_alu8.md R240, R247, R253, R278): with two bytes of two decimal digits
each in A and B, ADC A,B then DAA leaves the two decimal digits of their sum with the carry, and the decimal carry in
C. -/
def Obligations.DecimalAddition : Prop :=
  ∀ (s : State) (x1 x0 y1 y0 : Nat), x1 < 10 → x0 < 10 → y1 < 10 → y0 < 10 →
    s.cpu.a = BitVec.ofNat 8 (16 * x1 + x0) → s.cpu.b = BitVec.ofNat 8 (16 * y1 + y0) →
    let total := 10 * x1 + x0 + (10 * y1 + y0) + s.flagC.toNat
    ∃ t u, exec .adcAB s = .next t ∧ exec .daa t = .next u ∧
      u.cpu.a.toNat = 16 * (total / 10 % 10) + total % 10 ∧ u.flagC = decide (100 ≤ total)

/-! ### 16-bit arithmetic (42_alu16.md) -/

/-- ADD HL,rr (42_alu16.md R300): addHlBc, addHlDe, addHlHl, addHlSp. Z is unchanged. -/
def Obligations.AddToHl : Prop :=
  ∀ (r : RR) (s : State),
    let a := s.hl.toNat
    let b := (s.readRR r).toNat
    encode (Instr.addHlRr r) = [BitVec.ofNat 8 (0x09 + 16 * r.code)] ∧
    ∃ t, exec (Instr.addHlRr r) s = .next t ∧ t.cost = 2 ∧ t.hl.toNat = (a + b) % 65536 ∧
      FlagsAre t s.flagZ false (decide (a % 4096 + b % 4096 > 4095)) (decide (a + b > 65535)) ∧ OnlyRRF s t [.hl]

/-- INC rr and DEC rr (42_alu16.md R301, R302): incBc, incDe, incHl, incSp, decBc, decDe, decHl, decSp. -/
def Obligations.IncDecPair : Prop :=
  ∀ (r : RR) (s : State),
    let v := (s.readRR r).toNat
    (encode (Instr.incRr r) = [BitVec.ofNat 8 (0x03 + 16 * r.code)] ∧
      ∃ t, exec (Instr.incRr r) s = .next t ∧ t.cost = 2 ∧ (t.readRR r).toNat = (v + 1) % 65536 ∧ OnlyRR s t [r]) ∧
    (encode (Instr.decRr r) = [BitVec.ofNat 8 (0x0B + 16 * r.code)] ∧
      ∃ t, exec (Instr.decRr r) s = .next t ∧ t.cost = 2 ∧ (t.readRR r).toNat = (v + 65535) % 65536 ∧ OnlyRR s t [r])

/-- ADD SP,e8 (42_alu16.md R303, R304) and LD HL,SP+e8 (40_load.md R223): addSpE8, ldHlSpE8. The offset is signed; H
and C come from the unsigned sum of the low bytes. -/
def Obligations.StackPointerOffset : Prop :=
  ∀ (e : Byte) (s : State),
    let sp := s.cpu.sp.toNat
    let h := decide (sp % 16 + e.toNat % 16 > 15)
    let c := decide (sp % 256 + e.toNat > 255)
    (encode (.addSpE8 e) = [0xE8, e] ∧
      ∃ t, exec (.addSpE8 e) s = .next t ∧ t.cost = 4 ∧ (t.cpu.sp.toNat : Int) = ((sp : Int) + e.toInt) % 65536 ∧
        FlagsAre t false false h c ∧ OnlyRRF s t [.sp]) ∧
    (encode (.ldHlSpE8 e) = [0xF8, e] ∧
      ∃ t, exec (.ldHlSpE8 e) s = .next t ∧ t.cost = 3 ∧ (t.hl.toNat : Int) = ((sp : Int) + e.toInt) % 65536 ∧
        FlagsAre t false false h c ∧ OnlyRRF s t [.hl])

/-! ### Rotates, shifts and single bits (43_rotate_shift.md, 44_bit.md) -/

/-- RLCA, RRCA, RLA, RRA (43_rotate_shift.md R320 to R323, R330 to R333): rlca, rrca, rla, rra. Z, N and H are
cleared whatever the result is. -/
def Obligations.AccumulatorRotates : Prop :=
  ∀ s : State,
    let c := s.flagC.toNat
    let rotated (i : Instr) (op : ShiftOp) (b : Byte) : Prop :=
      encode i = [b] ∧
      ∃ t, exec i s = .next t ∧ t.cost = 1 ∧ t.cpu.a.toNat = shiftValue op s.cpu.a.toNat c ∧
        FlagsAre t false false false (shiftOut op s.cpu.a.toNat) ∧ OnlyR8F s t [.a]
    rotated .rlca .rlc 0x07 ∧ rotated .rrca .rrc 0x0F ∧ rotated .rla .rl 0x17 ∧ rotated .rra .rr 0x1F

/-- RLC, RRC, RL, RR, SLA, SRA, SWAP and SRL on a register (43_rotate_shift.md R320 to R327 and the even rules R334 to
R348): rlcB to srlA without the (HL) forms (56 constructors). -/
def Obligations.RotatesAndShiftsOfRegister : Prop :=
  ∀ (op : ShiftOp) (d : R8) (s : State), d ≠ .atHl →
    let v := (s.readR8 d).toNat
    let r := shiftValue op v s.flagC.toNat
    encode (Instr.shift op d) = [0xCB, BitVec.ofNat 8 (8 * op.code + d.code)] ∧
    ∃ t, exec (Instr.shift op d) s = .next t ∧ t.cost = 2 ∧ (t.readR8 d).toNat = r ∧
      FlagsAre t (decide (r = 0)) false false (shiftOut op v) ∧ OnlyR8F s t [d]

/-- RLC, RRC, RL, RR, SLA, SRA, SWAP and SRL on the byte at HL (43_rotate_shift.md R320 to R327 and the odd rules R335
to R349): rlcAtHl, rrcAtHl, rlAtHl, rrAtHl, slaAtHl, sraAtHl, swapAtHl, srlAtHl. Of the registers only F changes. -/
def Obligations.RotatesAndShiftsOfMemory : Prop :=
  ∀ (op : ShiftOp) (s : State),
    let v := (s.busRead s.hl).toNat
    let r := shiftValue op v s.flagC.toNat
    encode (Instr.shift op .atHl) = [0xCB, BitVec.ofNat 8 (8 * op.code + 6)] ∧
    ∃ t, exec (Instr.shift op .atHl) s = .next t ∧ t.cost = 4 ∧ r < 256 ∧ OnlyStore s t s.hl (BitVec.ofNat 8 r) ∧
      FlagsAre t (decide (r = 0)) false false (shiftOut op v) ∧ t.cpu = { s.cpu with f := t.cpu.f }

/-- BIT b on a register and on the byte at HL (44_bit.md R360, R361): bit0B to bit7A (64 constructors). Z is the
complement of the bit, C is unchanged, and nothing but F changes. -/
def Obligations.TestBit : Prop :=
  ∀ (b : Fin 8) (r : R8) (s : State),
    encode (Instr.bit b r) = [0xCB, BitVec.ofNat 8 (0x40 + 8 * b.val + r.code)] ∧
    ∃ t, exec (Instr.bit b r) s = .next t ∧ t.cost = (if r = .atHl then 3 else 2) ∧
      FlagsAre t (decide ((s.readR8 r).toNat / 2 ^ b.val % 2 = 0)) false true s.flagC ∧ OnlyR8F s t []

/-- RES b and SET b on a register (44_bit.md R362, R364): res0B to res7A and set0B to set7A without the (HL) forms
(112 constructors), where only that bit of the register changes; and RES b,(HL), SET b,(HL) (R363, R365): res0AtHl to
res7AtHl and set0AtHl to set7AtHl, where the byte is written back whether or not the bit changes and no CPU register
changes. No flag changes. -/
def Obligations.ResetAndSetBit : Prop :=
  (∀ (b : Fin 8) (d : R8) (s : State), d ≠ .atHl →
     (encode (Instr.res b d) = [0xCB, BitVec.ofNat 8 (0x80 + 8 * b.val + d.code)] ∧
       ∃ t, exec (Instr.res b d) s = .next t ∧ t.cost = 2 ∧ OnlyR8 s t [d] ∧
         ∀ j < 8, (t.readR8 d).getLsbD j = (if j = b.val then false else (s.readR8 d).getLsbD j)) ∧
     (encode (Instr.set b d) = [0xCB, BitVec.ofNat 8 (0xC0 + 8 * b.val + d.code)] ∧
       ∃ t, exec (Instr.set b d) s = .next t ∧ t.cost = 2 ∧ OnlyR8 s t [d] ∧
         ∀ j < 8, (t.readR8 d).getLsbD j = (if j = b.val then true else (s.readR8 d).getLsbD j))) ∧
  (∀ (b : Fin 8) (s : State),
     let v := s.busRead s.hl
     (encode (Instr.res b .atHl) = [0xCB, BitVec.ofNat 8 (0x86 + 8 * b.val)] ∧
       ∃ t w, exec (Instr.res b .atHl) s = .next t ∧ t.cost = 4 ∧ t.cpu = s.cpu ∧ OnlyStore s t s.hl w ∧
         ∀ j < 8, w.getLsbD j = (if j = b.val then false else v.getLsbD j)) ∧
     (encode (Instr.set b .atHl) = [0xCB, BitVec.ofNat 8 (0xC6 + 8 * b.val)] ∧
       ∃ t w, exec (Instr.set b .atHl) s = .next t ∧ t.cost = 4 ∧ t.cpu = s.cpu ∧ OnlyStore s t s.hl w ∧
         ∀ j < 8, w.getLsbD j = (if j = b.val then true else v.getLsbD j)))

/-! ### Control transfer (45_control.md) -/

/-- JP a16, JP HL, JR e8 (45_control.md R381, R383, R384): jpA16, jpHl, jrE8; and JP cc,a16, JR cc,e8 (R382, R385;
30_encoding.md R166): jpNzA16, jpZA16, jpNcA16, jpCA16, jrNzE8, jrZE8, jrNcE8, jrCE8. Only PC changes; JR's offset is
signed and the sum wraps; not taken, nothing changes and the cost is smaller. -/
def Obligations.JumpInstructions : Prop :=
  (∀ (a : Word) (e : Byte) (s : State),
     (encode (.jpA16 a) = [0xC3, lo a, hi a] ∧
       ∃ t, exec (.jpA16 a) s = .next t ∧ t.cost = 4 ∧ t.cpu = { s.cpu with pc := a } ∧ OnlyCpu s t) ∧
     (encode .jpHl = [0xE9] ∧
       ∃ t, exec .jpHl s = .next t ∧ t.cost = 1 ∧ t.cpu = { s.cpu with pc := s.hl } ∧ OnlyCpu s t) ∧
     (encode (.jrE8 e) = [0x18, e] ∧
       ∃ t, exec (.jrE8 e) s = .next t ∧ t.cost = 3 ∧ t.cpu = { s.cpu with pc := t.cpu.pc } ∧
         (t.cpu.pc.toNat : Int) = ((s.cpu.pc.toNat : Int) + e.toInt) % 65536 ∧ OnlyCpu s t)) ∧
  (∀ (cc : CC) (a : Word) (e : Byte) (s : State),
     (encode (Instr.jpCc cc a) = [BitVec.ofNat 8 (0xC2 + 8 * cc.code), lo a, hi a] ∧
       ∃ t, exec (Instr.jpCc cc a) s = .next t ∧ OnlyCpu s t ∧
         (CondHolds s cc → t.cost = 4 ∧ t.cpu = { s.cpu with pc := a }) ∧
         (¬ CondHolds s cc → t.cost = 3 ∧ t.cpu = s.cpu)) ∧
     (encode (Instr.jrCc cc e) = [BitVec.ofNat 8 (0x20 + 8 * cc.code), e] ∧
       ∃ t, exec (Instr.jrCc cc e) s = .next t ∧ OnlyCpu s t ∧
         (CondHolds s cc → t.cost = 3 ∧ t.cpu = { s.cpu with pc := t.cpu.pc } ∧
           (t.cpu.pc.toNat : Int) = ((s.cpu.pc.toNat : Int) + e.toInt) % 65536) ∧
         (¬ CondHolds s cc → t.cost = 2 ∧ t.cpu = s.cpu)))

/-- CALL a16 and RST (45_control.md R386, R391): callA16, rst00, rst08, rst10, rst18, rst20, rst28, rst30, rst38; and
CALL cc,a16 (R387): callNzA16, callZA16, callNcA16, callCA16. The PC past the instruction is pushed, high byte first;
not taken, CALL cc touches neither the stack nor SP. -/
def Obligations.CallInstructions : Prop :=
  (∀ (a : Word) (y : Fin 8) (s : State),
     (encode (.callA16 a) = [0xCD, lo a, hi a] ∧
       ∃ t, exec (.callA16 a) s = .next t ∧ t.cost = 6 ∧ t.cpu = { s.cpu with sp := s.cpu.sp - 2, pc := a } ∧
         OnlyStores s t (s.cpu.sp - 1) (hi s.cpu.pc) (s.cpu.sp - 2) (lo s.cpu.pc)) ∧
     (encode (Instr.rst y) = [BitVec.ofNat 8 (0xC7 + 8 * y.val)] ∧
       ∃ t, exec (Instr.rst y) s = .next t ∧ t.cost = 4 ∧
         t.cpu = { s.cpu with sp := s.cpu.sp - 2, pc := BitVec.ofNat 16 (8 * y.val) } ∧
         OnlyStores s t (s.cpu.sp - 1) (hi s.cpu.pc) (s.cpu.sp - 2) (lo s.cpu.pc))) ∧
  (∀ (cc : CC) (a : Word) (s : State),
     encode (Instr.callCc cc a) = [BitVec.ofNat 8 (0xC4 + 8 * cc.code), lo a, hi a] ∧
     ∃ t, exec (Instr.callCc cc a) s = .next t ∧
       (CondHolds s cc → t.cost = 6 ∧ t.cpu = { s.cpu with sp := s.cpu.sp - 2, pc := a } ∧
         OnlyStores s t (s.cpu.sp - 1) (hi s.cpu.pc) (s.cpu.sp - 2) (lo s.cpu.pc)) ∧
       (¬ CondHolds s cc → t.cost = 3 ∧ t.cpu = s.cpu ∧ OnlyCpu s t))

/-- RET, RETI and RET cc (45_control.md R388, R389, R390): ret, reti, retNz, retZ, retNc, retC. RETI also sets IME at
once and clears the EI latch. -/
def Obligations.Returns : Prop :=
  ∀ (cc : CC) (s : State),
    let back : Cpu := { s.cpu with pc := cat (s.busRead (s.cpu.sp + 1)) (s.busRead s.cpu.sp), sp := s.cpu.sp + 2 }
    (encode .ret = [0xC9] ∧
      ∃ t, exec .ret s = .next t ∧ t.cost = 4 ∧ t.cpu = back ∧ OnlyCpu s t) ∧
    (encode .reti = [0xD9] ∧
      ∃ t, exec .reti s = .next t ∧ t.cost = 4 ∧ t.cpu = back ∧
        t.irq = { s.irq with ime := true, eiPending := false } ∧
        t = { s with cpu := t.cpu, irq := t.irq, cost := t.cost } ∧ ∀ b : Word, t.busRead b = s.busRead b) ∧
    (encode (Instr.retCc cc) = [BitVec.ofNat 8 (0xC0 + 8 * cc.code)] ∧
      ∃ t, exec (Instr.retCc cc) s = .next t ∧ OnlyCpu s t ∧
        (CondHolds s cc → t.cost = 5 ∧ t.cpu = back) ∧ (¬ CondHolds s cc → t.cost = 2 ∧ t.cpu = s.cpu))

/-- CALL then RET, and PUSH then POP, bring PC, SP and the pair back (derived from 00_scope.md R17, 45_control.md
R386, R388, 40_load.md R230, R231), where the stack's two bytes are plain memory: elsewhere the bus may not keep the
bytes (20_memory.md R113). The last clause names the one pair whose round trip is exact only for a low nibble 0
(10_state.md R42). -/
def Obligations.StackRoundTrips : Prop :=
  ∀ s : State, Memory.wf s.mem = true →
    (route (s.cpu.sp - 1)).isMemory = true → (route (s.cpu.sp - 2)).isMemory = true →
    (∀ a : Word, ∃ t u, exec (.callA16 a) s = .next t ∧ exec .ret t = .next u ∧ t.cpu.pc = a ∧ u.cpu = s.cpu) ∧
    (∀ q : QQ, q ≠ .af → ∃ t u, exec (Instr.push q) s = .next t ∧ exec (Instr.pop q) t = .next u ∧ u.cpu = s.cpu) ∧
    (∃ t u, exec .pushAf s = .next t ∧ exec .popAf t = .next u ∧ u.cpu = { s.cpu with f := s.cpu.f &&& 0xF0 })

/-! ### System (46_system.md) -/

/-- NOP, STOP and the 11 unassigned opcodes (46_system.md R410, R412, R416) do nothing in 1 cycle; HALT, DI and EI
(R411, R413, R414) write only their bits: nop, stop, unassignedD3, unassignedDB, unassignedDD, unassignedE3,
unassignedE4, unassignedEB, unassignedEC, unassignedED, unassignedF4, unassignedFC, unassignedFD, halt, di, ei. -/
def Obligations.NoOperationsAndInterruptControl : Prop :=
  ∀ (n : Byte) (u : Unassigned) (s : State),
    (encode .nop = [0x00] ∧ exec .nop s = .next { s with cost := 1 }) ∧
    (encode (.stop n) = [0x10, n] ∧ exec (.stop n) s = .next { s with cost := 1 }) ∧
    (encode (Instr.unassigned u) = [u.byte] ∧ exec (Instr.unassigned u) s = .next { s with cost := 1 }) ∧
    (encode .halt = [0x76] ∧ exec .halt s = .next { s with irq := { s.irq with halted := true }, cost := 1 }) ∧
    (encode .di = [0xF3] ∧
      exec .di s = .next { s with irq := { s.irq with ime := false, eiPending := false }, cost := 1 }) ∧
    (encode .ei = [0xFB] ∧ exec .ei s = .next { s with irq := { s.irq with eiPending := true }, cost := 1 })

/-- The prefix (46_system.md R415): prefixCb fetches op2 and runs the extended instruction op2, which is the one that
the decoder reads from 0xCB and op2. -/
def Obligations.PrefixRunsExtendedInstruction : Prop :=
  ∀ s : State, ∃ (i : Instr) (t : State),
    decode [0xCB, s.busRead s.cpu.pc] = .ok (i, []) ∧
    exec .prefixCb s = .next t ∧ exec i (s.setPc (s.cpu.pc + 1)) = .next t

/-- Only these instructions write IME, the EI latch and the halt bit (10_state.md R48, R49, R50). -/
def Obligations.InterruptControlWriters : Prop :=
  ∀ (i : Instr) (s t : State), exec i s = .next t →
    (i ≠ .di → i ≠ .reti → t.irq.ime = s.irq.ime) ∧
    (i ≠ .ei → i ≠ .di → i ≠ .reti → t.irq.eiPending = s.irq.eiPending) ∧
    (i ≠ .halt → t.irq.halted = s.irq.halted)

/-! ### The bus (20_memory.md) -/

/-- 20_memory.md R112: the read decoder, row by row. `State.mem` holds the RAM arrays by bus address (log entry 11). -/
def Obligations.ReadDecoder : Prop :=
  ∀ (s : State) (a : Word),
    let n := a.toNat
    (n < 0x4000 → s.busRead a = Memory.read s.cart.rom n) ∧
    (0x4000 ≤ n → n < 0x8000 → s.busRead a = Memory.read s.cart.rom (s.cart.romBank.toNat * 0x4000 + n - 0x4000)) ∧
    (0x8000 ≤ n → n < 0xE000 → s.busRead a = Memory.read s.mem n) ∧
    (0xE000 ≤ n → n < 0xFE00 → s.busRead a = 0) ∧
    (0xFE00 ≤ n → n < 0xFEA0 → s.busRead a = Memory.read s.mem n) ∧
    (0xFEA0 ≤ n → n < 0xFF00 → s.busRead a = 0) ∧
    (n = 0xFF00 → s.busRead a = s.joypad.read) ∧
    (n = 0xFF04 → s.busRead a = s.timer.div) ∧ (n = 0xFF05 → s.busRead a = s.timer.tima) ∧
    (n = 0xFF06 → s.busRead a = s.timer.tma) ∧ (n = 0xFF07 → s.busRead a = s.timer.tac) ∧
    (n = 0xFF0F → s.busRead a = s.irq.ifReg) ∧
    (n = 0xFF40 → s.busRead a = s.ppu.lcdc) ∧ (n = 0xFF41 → s.busRead a = s.ppu.stat &&& 0x7F) ∧
    (n = 0xFF42 → s.busRead a = s.ppu.scy) ∧ (n = 0xFF43 → s.busRead a = s.ppu.scx) ∧
    (n = 0xFF44 → s.busRead a = s.ppu.ly) ∧ (n = 0xFF45 → s.busRead a = s.ppu.lyc) ∧
    (n = 0xFF46 → s.busRead a = s.ppu.dma) ∧ (n = 0xFF47 → s.busRead a = s.ppu.bgp) ∧
    (n = 0xFF48 → s.busRead a = s.ppu.obp0) ∧ (n = 0xFF49 → s.busRead a = s.ppu.obp1) ∧
    (n = 0xFF4A → s.busRead a = s.ppu.wy) ∧ (n = 0xFF4B → s.busRead a = s.ppu.wx) ∧
    (n = 0xFF50 → s.busRead a = 0) ∧
    (0xFF01 ≤ n ∧ n < 0xFF04 ∨ 0xFF08 ≤ n ∧ n < 0xFF0F ∨ 0xFF10 ≤ n ∧ n < 0xFF40 ∨ 0xFF4C ≤ n ∧ n < 0xFF50 ∨
      0xFF51 ≤ n ∧ n < 0xFF80 → s.busRead a = Memory.read s.mem n) ∧
    (0xFF80 ≤ n → n < 0xFFFF → s.busRead a = Memory.read s.mem n) ∧
    (n = 0xFFFF → s.busRead a = s.irq.ieReg)

/-- 20_memory.md R113, the write decoder row by row, but for the rows with a statement of their own (BankSelect,
CoincidenceAndStatWrites for STAT and LYC, OamDmaCopies, BootRomHandover, and JoypadRegisterAndInterrupt). Writes to
unmapped addresses (R114), to ROM where there is no bank select (R123) and to LY (10_state.md R73) have no effect; a
write to DIV clears DIV and its sub-counter and leaves TIMA, its sub-counter and TAC (60_exceptions.md R452); a write to
TIMA, TMA, TAC (R453, R454), IF, LCDC, SCY, SCX, BGP, OBP0, OBP1, WY, WX or IE stores the byte; and a write to plain
memory changes that byte. Nothing else changes. -/
def Obligations.IgnoredWrites : Prop :=
  ∀ (s : State) (a : Word) (v : Byte),
    let n := a.toNat
    let t := s.busWrite a v
    (0xE000 ≤ n ∧ n < 0xFE00 ∨ 0xFEA0 ≤ n ∧ n < 0xFF00 → t = s ∧ s.busRead a = 0) ∧
    (n < 0x2000 ∨ 0x4000 ≤ n ∧ n < 0x8000 → t = s) ∧
    (n < 0x8000 → s.cart.isMbc1 = false → t = s) ∧
    (n = 0xFF44 → t = s) ∧
    (n = 0xFF04 → t = { s with timer := { s.timer with div := 0, divSub := 0 } }) ∧
    (n = 0xFF05 → t = { s with timer := { s.timer with tima := v } }) ∧
    (n = 0xFF06 → t = { s with timer := { s.timer with tma := v } }) ∧
    (n = 0xFF07 → t = { s with timer := { s.timer with tac := v } }) ∧
    (n = 0xFF0F → t = { s with irq := { s.irq with ifReg := v } }) ∧
    (n = 0xFF40 → t = { s with ppu := { s.ppu with lcdc := v } }) ∧
    (n = 0xFF42 → t = { s with ppu := { s.ppu with scy := v } }) ∧
    (n = 0xFF43 → t = { s with ppu := { s.ppu with scx := v } }) ∧
    (n = 0xFF47 → t = { s with ppu := { s.ppu with bgp := v } }) ∧
    (n = 0xFF48 → t = { s with ppu := { s.ppu with obp0 := v } }) ∧
    (n = 0xFF49 → t = { s with ppu := { s.ppu with obp1 := v } }) ∧
    (n = 0xFF4A → t = { s with ppu := { s.ppu with wy := v } }) ∧
    (n = 0xFF4B → t = { s with ppu := { s.ppu with wx := v } }) ∧
    (n = 0xFFFF → t = { s with irq := { s.irq with ieReg := v } }) ∧
    (0x8000 ≤ n ∧ n < 0xE000 ∨ 0xFE00 ≤ n ∧ n < 0xFEA0 ∨ 0xFF01 ≤ n ∧ n < 0xFF04 ∨ 0xFF08 ≤ n ∧ n < 0xFF0F ∨
      0xFF10 ≤ n ∧ n < 0xFF40 ∨ 0xFF4C ≤ n ∧ n < 0xFF50 ∨ 0xFF51 ≤ n ∧ n < 0xFF80 ∨ 0xFF80 ≤ n ∧ n < 0xFFFF →
      t = { s with mem := t.mem } ∧ (Memory.wf s.mem = true → t.busRead a = v) ∧
      ∀ b : Word, b ≠ a → t.busRead b = s.busRead b)

/-- 20_memory.md R120 and R122: a write of v to 0x2000-0x3FFF on an MBC1 cartridge selects bank v & 0x1F, with 0
coerced to 1, changes nothing else, and the window 0x4000-0x7FFF then reads that bank of the ROM. -/
def Obligations.BankSelect : Prop :=
  ∀ (s : State) (a : Word) (v : Byte), s.cart.isMbc1 = true → 0x2000 ≤ a.toNat → a.toNat < 0x4000 →
    let bank := if v.toNat % 32 = 0 then 1 else v.toNat % 32
    let t := s.busWrite a v
    t = { s with cart := { s.cart with romBank := BitVec.ofNat 5 bank } } ∧
    (∀ w : Word, 0x4000 ≤ w.toNat → w.toNat < 0x8000 →
      t.busRead w = Memory.read s.cart.rom (bank * 0x4000 + (w.toNat - 0x4000))) ∧
    (∀ w : Word, w.toNat < 0x4000 → t.busRead w = Memory.read s.cart.rom w.toNat)

/-- 60_exceptions.md R525 (R526): a write of v to DMA stores v and copies the 160 bytes from v*0x100 into OAM, each as
it read once DMA holds v; no other byte and no other part of the state changes. -/
def Obligations.OamDmaCopies : Prop :=
  ∀ (s : State) (v : Byte),
    let d : State := { s with ppu := { s.ppu with dma := v } }
    let t := s.busWrite 0xFF46 v
    t = { d with mem := t.mem } ∧
    (Memory.wf s.mem = true →
      ∀ i < 160, t.busRead (BitVec.ofNat 16 (0xFE00 + i)) = d.busRead (BitVec.ofNat 16 (v.toNat * 0x100 + i))) ∧
    (∀ b : Word, b.toNat < 0xFE00 ∨ 0xFEA0 ≤ b.toNat → t.busRead b = d.busRead b)

/-- 20_memory.md R131: the first write to 0xFF50 puts the cartridge's own bytes back at 0x0000-0x00FF and sets
disable_bootrom; the rest of ROM stays; a write when it is set has no effect. -/
def Obligations.BootRomHandover : Prop :=
  ∀ (s : State) (v : Byte),
    (s.cart.disableBootrom = true → s.busWrite 0xFF50 v = s) ∧
    (s.cart.disableBootrom = false →
      let t := s.busWrite 0xFF50 v
      t = { s with cart := { s.cart with rom := t.cart.rom, disableBootrom := true } } ∧
      (Memory.wf s.cart.rom = true →
        ∀ k : Nat, Memory.read t.cart.rom k =
          if k < 256 then Memory.read s.cart.cartLow k else Memory.read s.cart.rom k) ∧
      t.busWrite 0xFF50 v = t) ∧
    s.busRead 0xFF50 = 0

/-- 10_state.md R83 and 20_memory.md R123, R144: with the boot ROM disabled no instruction changes a ROM byte; no
instruction ever changes the cartridge type, cart_low or the boot image; and a cartridge without a bank controller
keeps its bank. -/
def Obligations.RomIsReadOnly : Prop :=
  ∀ (i : Instr) (s t : State), exec i s = .next t →
    t.cart.cartType = s.cart.cartType ∧ t.cart.cartLow = s.cart.cartLow ∧ t.cart.bootImage = s.cart.bootImage ∧
    (s.cart.disableBootrom = true → t.cart.rom = s.cart.rom ∧ t.cart.disableBootrom = true) ∧
    (s.cart.isMbc1 = false → t.cart.romBank = s.cart.romBank)

/-- 10_state.md R71, R74 and 60_exceptions.md R513: a write to LYC stores the byte, makes STAT bit 2 the comparison of
LY with it, and requests interrupt 1 exactly when the comparison becomes true with STAT bit 6 set; a write to STAT
stores bits 6 to 3 only. -/
def Obligations.CoincidenceAndStatWrites : Prop :=
  ∀ (s : State) (v : Byte),
    let t := s.busWrite 0xFF45 v
    let rising := decide (s.ppu.ly = v) && !s.ppu.stat.getLsbD 2 && s.ppu.stat.getLsbD 6
    t.ppu = { s.ppu with lyc := v, stat := t.ppu.stat } ∧
    (∀ j < 8, t.ppu.stat.getLsbD j = (if j = 2 then decide (s.ppu.ly = v) else s.ppu.stat.getLsbD j)) ∧
    t = { s with ppu := t.ppu, irq := { s.irq with ifReg := s.irq.ifReg ||| (if rising then 0x02 else 0) } } ∧
    let w := s.busWrite 0xFF41 v
    w = { s with ppu := { s.ppu with stat := w.ppu.stat } } ∧
    (∀ j < 8, w.ppu.stat.getLsbD j =
      (if j < 3 then s.ppu.stat.getLsbD j else if j < 7 then v.getLsbD j else false))

/-! ### The joypad (60_exceptions.md R530 to R532) -/

/-- 60_exceptions.md R530, R531 and R532: a write to 0xFF00 stores bits 5-4; a read gives 11, the select bits and, for
each column, the AND of the selected groups' flags; a press requests interrupt 4 whatever is selected, and nothing else
does. -/
def Obligations.JoypadRegisterAndInterrupt : Prop :=
  ∀ (s : State) (v : Byte) (ev : ButtonEvent),
    (s.busWrite 0xFF00 v = { s with joypad := { s.joypad with p1Select := v.extractLsb' 4 2 } }) ∧
    (let j := s.joypad
     let action := !j.p1Select.getLsbD 1
     let direction := !j.p1Select.getLsbD 0
     let r := s.busRead 0xFF00
     r.extractLsb' 6 2 = 0b11 ∧ r.extractLsb' 4 2 = j.p1Select ∧
     r.getLsbD 3 = ((!action || j.start) && (!direction || j.down)) ∧
     r.getLsbD 2 = ((!action || j.select) && (!direction || j.up)) ∧
     r.getLsbD 1 = ((!action || j.b) && (!direction || j.left)) ∧
     r.getLsbD 0 = ((!action || j.a) && (!direction || j.right))) ∧
    (let t := s.applyButton ev
     let press := s.joypad.released ev.button && !ev.released
     t = { s with joypad := t.joypad, irq := { s.irq with ifReg := s.irq.ifReg ||| (if press then 0x10 else 0) } } ∧
     t.joypad.p1Select = s.joypad.p1Select ∧
     (∀ b : Button, t.joypad.released b = if b = ev.button then ev.released else s.joypad.released b))

/-! ### Interrupts (60_exceptions.md R440 to R444) -/

/-- 60_exceptions.md R441: the interrupt entry clears IME and the request bit, pushes PC, high byte first, and goes to
the vector. Nothing else changes but what the two writes do; that the EI latch is among what stays is the model's choice
(log entry 24). -/
def Obligations.InterruptEntry : Prop :=
  ∀ (s : State) (k : Nat), k < 5 →
    let s1 : State :=
      { s with irq := { s.irq with ime := false, ifReg := s.irq.ifReg &&& ~~~(BitVec.ofNat 8 (2 ^ k)) } }
    (s.dispatch k).cpu = { s.cpu with sp := s.cpu.sp - 2, pc := BitVec.ofNat 16 (0x40 + 8 * k) } ∧
    (s.dispatch k).irq.ime = false ∧ (s.dispatch k).cost = s.cost ∧
    OnlyStores s1 (s.dispatch k) (s.cpu.sp - 1) (hi s.cpu.pc) (s.cpu.sp - 2) (lo s.cpu.pc)

/-- 60_exceptions.md R440 and R442: nothing happens with IME and the halt bit clear, or with nothing enabled pending;
otherwise the CPU wakes, and with IME set the lowest pending bit is dispatched. (That neither touches the EI latch is
the model's choice: log entry 24.) -/
def Obligations.InterruptEvaluation : Prop :=
  ∀ s : State,
    let pending (k : Nat) : Prop := k < 5 ∧ s.irq.ieReg.getLsbD k = true ∧ s.irq.ifReg.getLsbD k = true
    let awake : State := { s with irq := { s.irq with halted := false } }
    ((s.irq.ime = false ∧ s.irq.halted = false) ∨ (∀ k, ¬ pending k) → s.interruptEvaluate = s) ∧
    ((∃ k, pending k) → s.irq.ime = false → s.interruptEvaluate = awake) ∧
    (∀ k, pending k → (∀ j < k, ¬ pending j) → s.irq.ime = true → s.interruptEvaluate = awake.dispatch k)

/-! ### The timer (60_exceptions.md R450 to R456) -/

/-- 60_exceptions.md R450, R455, R456: over n cycles DIV and its sub-counter count up by n as one number, and TIMA,
while TAC bit 2 is set, receives floor((tima_sub + n) / p) ticks, reloading from TMA at each overflow and requesting
interrupt 2 exactly when it overflows; nothing else changes. -/
def Obligations.TimerCounts : Prop :=
  ∀ (s : State) (n : Nat),
    let t := s.timerAdvance n
    let p := if s.timer.tac.getLsbD 1 then (if s.timer.tac.getLsbD 0 then 64 else 16)
      else (if s.timer.tac.getLsbD 0 then 4 else 256)
    let ticks := if s.timer.tac.getLsbD 2 then (s.timer.timaSub + n) / p else 0
    let v := s.timer.tima.toNat + ticks
    let m := s.timer.tma.toNat
    t = { s with timer := t.timer, irq := { s.irq with ifReg := s.irq.ifReg ||| (if v < 256 then 0 else 0x04) } } ∧
    t.timer.tma = s.timer.tma ∧ t.timer.tac = s.timer.tac ∧
    t.timer.divSub = (s.timer.divSub + n) % 64 ∧
    t.timer.div.toNat = (s.timer.div.toNat + (s.timer.divSub + n) / 64) % 256 ∧
    t.timer.timaSub = (if s.timer.tac.getLsbD 2 then (s.timer.timaSub + n) % p else s.timer.timaSub) ∧
    t.timer.tima.toNat = (if v < 256 then v else m + (v - 256) % (256 - m))

/-- 60_exceptions.md R455, "over any sequence of steps": advancing the timer by m cycles and then by n is advancing it
by m + n, so how a program's cycles fall into steps makes no difference to the timer. -/
def Obligations.TimerAdvanceIsAdditive : Prop :=
  ∀ (s : State) (m n : Nat), (s.timerAdvance m).timerAdvance n = s.timerAdvance (m + n)

/-! ### The PPU (60_exceptions.md R500 to R522) -/

/-- 60_exceptions.md R502, R503, R505, R511 and R512: each transition goes to the next mode of R500 and adds its
budget, so the overshoot carries over; STAT shows the new mode and the coincidence; h-blank ends with LY + 1 and
v-blank with LY 0; DRAW ends with its line rendered; entering h-blank, v-blank or the OAM scan requests interrupt 1
where STAT bit 3, 4 or 5 is set, entering DRAW never, and the change of LY requests it by R513; entering v-blank
requests interrupt 0, counts and presents the frame. Nothing else changes. An advance (R501) ends with dots left, from
every state. -/
def Obligations.PpuTransitions : Prop :=
  ∀ (s : State) (n : Nat),
    let t := s.ppuTransition
    let ly : Byte :=
      match s.ppu.mode with
      | .hblank => s.ppu.ly + 1
      | .vblank => 0
      | _ => s.ppu.ly
    let next : Mode :=
      match s.ppu.mode with
      | .oamScan => .draw
      | .draw => .hblank
      | .hblank => if ly = 144 then .vblank else .oamScan
      | .vblank => .oamScan
    t = { s with frame := t.frame, presented := t.presented, ppu := t.ppu, irq := t.irq } ∧
    t.ppu = { s.ppu with
      mode := next, dotsRemaining := s.ppu.dotsRemaining + modeBudget next, ly := ly, stat := t.ppu.stat
      vblankDots := if next = .vblank then (-s.ppu.dotsRemaining).toNat else s.ppu.vblankDots
      frameCount := if next = .vblank then s.ppu.frameCount + 1 else s.ppu.frameCount } ∧
    t.ppu.stat.extractLsb' 0 2 = modeNum next ∧
    (∀ j, 2 ≤ j → t.ppu.stat.getLsbD j = (if j = 2 then s.coincidenceBit ly else s.ppu.stat.getLsbD j)) ∧
    t.irq = { s.irq with ifReg := s.irq.ifReg |||
      ((if s.coincidenceRequest ly || s.modeRequest next then 0x02 else 0) |||
        (if next = .vblank then 0x01 else 0)) } ∧
    t.frame = (if s.ppu.mode = .draw then (s.renderLine s.ppu.ly.toNat).frame else s.frame) ∧
    t.presented =
      (if next = .vblank then some { frameCount := s.ppu.frameCount + 1, frame := s.frame } else s.presented) ∧
    0 < (s.ppuAdvance n).ppu.dotsRemaining

/-- What an advance of the PPU does. From the start of a visible line other than the last, 114 cycles draw that line and
bring the PPU to the start of the next one, LY one higher (60_exceptions.md R506, R508; 70_reset_and_hazards.md R582).
And for any n whose 4n dots pass at most one mode's end (every step, R508): the dots are taken from the mode's, in
v-blank they are added to vblank_dots and LY becomes 144 + min(9, vblank_dots div 456) with the coincidence check of a
changed LY, and then, if no dots are left, one transition follows (R501, R504). -/
def Obligations.VisibleLineTakes114Cycles : Prop :=
  (∀ s : State, s.ppu.mode = .oamScan → s.ppu.dotsRemaining = 80 → s.ppu.ly.toNat < 143 →
    let t := s.ppuAdvance 114
    t.ppu.mode = .oamScan ∧ t.ppu.dotsRemaining = 80 ∧ t.ppu.ly = s.ppu.ly + 1 ∧
    (storeWf blankLine s.frame = true → t.frameLine s.ppu.ly.toNat = s.lineShades s.ppu.ly.toNat) ∧
    (∀ l : Nat, l ≠ s.ppu.ly.toNat → t.frameLine l = s.frameLine l)) ∧
  (∀ (s : State) (n : Nat), 4 * (n : Int) < s.ppu.dotsRemaining + 80 →
    let dots := s.ppu.vblankDots + 4 * n
    let ly : Byte := BitVec.ofNat 8 (144 + min 9 (dots / 456))
    ∃ u : State,
      s.ppuAdvance n = (if 4 * (n : Int) < s.ppu.dotsRemaining then u else u.ppuTransition) ∧
      (s.ppu.mode ≠ .vblank →
        u = { s with ppu := { s.ppu with dotsRemaining := s.ppu.dotsRemaining - 4 * n } }) ∧
      (s.ppu.mode = .vblank →
        u = { s with
          ppu := { s.ppu with
            dotsRemaining := s.ppu.dotsRemaining - 4 * n, vblankDots := dots, ly := ly, stat := u.ppu.stat }
          irq := { s.irq with ifReg := s.irq.ifReg ||| (if s.coincidenceRequest ly then 0x02 else 0) } } ∧
        ∀ j, u.ppu.stat.getLsbD j = (if j = 2 then s.coincidenceBit ly else s.ppu.stat.getLsbD j)))

/-- 60_exceptions.md R514 to R518 and R522: rendering a visible line writes its 160 shades in the frame buffer and
changes nothing else of the state; the shade at a column is the background's or the window's (`backIndex`, `backShade`:
R514, R515, R517, R518) composed with the winning pixel (SpritePriority) of the line's sprites (SpriteSelection), which
are none with LCDC bit 1 clear. -/
def Obligations.RenderLineWritesOneRow : Prop :=
  ∀ (s : State) (ly : Nat), ly < 144 →
    let t := s.renderLine ly
    let sel := if s.ppu.lcdc.getLsbD 1 then s.selectSprites ly else []
    t = { s with frame := t.frame } ∧
    (storeWf blankLine s.frame = true → (t.frameLine ly).length = 160) ∧
    (storeWf blankLine s.frame = true → ∀ x < 160,
      (t.frameLine ly)[x]? = some (s.composite (BitVec.ofNat 2 (s.backIndex ly x)) (BitVec.ofNat 2 (s.backShade ly x))
        (s.spritePixel sel ly x))) ∧
    (∀ x, s.backIndex ly x < 4 ∧ s.backShade ly x < 4) ∧
    (∀ l : Nat, l ≠ ly → t.frameLine l = s.frameLine l)

/-- 60_exceptions.md R519: at most 10 sprites are selected for a line, each covers the line, they stand in OAM order,
and one that covers the line is left out only when 10 earlier ones were selected. -/
def Obligations.SpriteSelection : Prop :=
  ∀ (s : State) (ly : Nat),
    let covers (i : Nat) : Prop :=
      ((s.busRead (BitVec.ofNat 16 (0xFE00 + 4 * i))).toNat : Int) - 16 ≤ ly ∧
      (ly : Int) < ((s.busRead (BitVec.ofNat 16 (0xFE00 + 4 * i))).toNat : Int) - 16 +
        (if s.ppu.lcdc.getLsbD 2 then 16 else 8)
    let sel := s.selectSprites ly
    sel.length ≤ 10 ∧ sel.Pairwise (fun i j => i < j) ∧ (∀ i ∈ sel, i < 40 ∧ covers i) ∧
    (∀ i < 40, covers i → i ∉ sel → sel.length = 10 ∧ ∀ j ∈ sel, j < i)

/-- 60_exceptions.md R520 and R521: a sprite that covers the line is opaque at columns X - 8 to X - 1 where its colour
index (`spriteIndex`: flips, 8x16 tiles) is not 0; of the opaque sprite pixels at a column the one with the lowest X
wins, a tie going to the lowest OAM index; the winner shows unless it is behind a background or window pixel whose
colour index is not 0; with no opaque sprite pixel the background or window shows. -/
def Obligations.SpritePriority : Prop :=
  ∀ (s : State) (sel : List Nat) (ly x : Nat) (bgIdx bgShade : BitVec 2),
    (∀ i, s.byteAt (0xFE00 + 4 * i) ≤ ly + 16 → ly + 16 < s.byteAt (0xFE00 + 4 * i) + s.heightOf →
      s.spriteOpaque ly x i =
        if s.byteAt (0xFE00 + 4 * i + 1) ≤ x + 8 ∧ x < s.byteAt (0xFE00 + 4 * i + 1) ∧ s.spriteIndex ly x i ≠ 0 then
          some { i := i, x := s.busRead (BitVec.ofNat 16 (0xFE00 + 4 * i + 1))
                 idx := BitVec.ofNat 2 (s.spriteIndex ly x i)
                 attr := s.busRead (BitVec.ofNat 16 (0xFE00 + 4 * i + 3)) }
        else none) ∧
    (∀ i, s.spriteIndex ly x i < 4) ∧
    (s.spritePixel sel ly x = none → (∀ i ∈ sel, s.spriteOpaque ly x i = none)) ∧
    (∀ p, s.spritePixel sel ly x = some p →
      p.i ∈ sel ∧ s.spriteOpaque ly x p.i = some p ∧
      ∀ i ∈ sel, ∀ q, s.spriteOpaque ly x i = some q →
        p.x.toNat < q.x.toNat ∨ (p.x = q.x ∧ p.i ≤ q.i)) ∧
    s.composite bgIdx bgShade none = bgShade ∧
    (∀ p : SpritePixel,
      (p.attr.getLsbD 7 = true → bgIdx ≠ 0 → s.composite bgIdx bgShade (some p) = bgShade) ∧
      (p.attr.getLsbD 7 = false ∨ bgIdx = 0 →
        s.composite bgIdx bgShade (some p) =
          BitVec.ofNat 2
            ((if p.attr.getLsbD 4 then s.ppu.obp1 else s.ppu.obp0).toNat / 4 ^ p.idx.toNat % 4)))

/-! ### Reset, load and the end of a run -/

/-- 70_reset_and_hazards.md R553 to R556, R558 and R559: the values that the spec gives for a reset without a boot ROM.
(What memory and the cartridge hold at `State.reset`, and the model's own fields, are log entries 1, 2, 4 and 5, and no
part of this statement.) -/
def Obligations.ResetValues : Prop :=
  let s := State.reset
  s.cpu = { a := 0x01, f := 0xB0, b := 0x00, c := 0x13, d := 0x00, e := 0xD8, h := 0x01, l := 0x4D,
            sp := 0xFFFE, pc := 0x0100 } ∧
  s.irq = { ime := false, eiPending := false, halted := false, ifReg := 0, ieReg := 0 } ∧
  s.cycles = 0 ∧ s.cart.disableBootrom = true ∧
  s.timer = { div := 0, divSub := 0, tima := 0, tma := 0, tac := 0, timaSub := 0 } ∧
  s.ppu = { mode := .oamScan, dotsRemaining := 80, vblankDots := 0, frameCount := 0, lcdc := 0x91, stat := 0x06,
            scy := 0, scx := 0, ly := 0, lyc := 0, dma := 0, bgp := 0xFC, obp0 := 0, obp1 := 0, wy := 0, wx := 0 } ∧
  s.cart.romBank = 1 ∧
  s.joypad = { p1Select := 0b11, right := true, left := true, up := true, down := true, a := true, b := true,
               select := true, start := true } ∧
  s.busRead 0xFF00 = 0xFF

/-- 20_memory.md R127 and R121: a load succeeds exactly when the image has at least 0x150 bytes and at most its type's
capacity, its type is 0 to 3 and a boot ROM, where one is given, has 256 bytes; a load that succeeds puts the image, or
the boot ROM over its first 256 bytes, where the bus reads it (R120, R126, R130), and the state meets the invariant
that every step keeps. -/
def Obligations.LoadChecks : Prop :=
  ∀ x : LoadInputs,
    let n := x.cartImage.length
    let type := (x.cartImage.getD 0x147 0).toNat
    let capacity := if type = 0 then 0x8000 else 0x80000
    let good := 0x150 ≤ n ∧ type ≤ 3 ∧ n ≤ capacity ∧ ∀ b, x.bootRom = some b → b.length = 256
    (¬ good → ∃ r, State.load x = .fault r) ∧
    (good → ∃ s, State.load x = .next s ∧ s.Inv ∧ s.cart.romBank = 1 ∧
      s.cart.disableBootrom = x.bootRom.isNone ∧
      ∀ k : Nat, Memory.read s.cart.rom k =
        match x.bootRom with
        | none => x.cartImage.getD k 0
        | some b => if k < 256 then b.getD k 0 else x.cartImage.getD k 0)

/-- The invariant holds at reset. (Memory, ROM and the frame list nothing there: log entries 1 and 2.) -/
def Obligations.InvariantAtReset : Prop := State.reset.Inv

/-- Every step keeps the invariant, from every state that meets it: memory, ROM and the frame buffer stay in their
canonical form; F's low nibble stays 0 (10_state.md R42); a halted CPU has no pending EI; rom_bank is never 0 and stays
1 without a bank controller (R85; 20_memory.md R121); and STAT, the mode, LY and the dots left stay consistent (R66,
R71; 60_exceptions.md R503, R504, R506, R513). -/
def Obligations.StepKeepsInvariant : Prop := ∀ s t : State, s.Inv → step s = .next t → t.Inv

/-- 60_exceptions.md R545: from a dead halt on, however many steps follow, no register, IME, IE, RAM byte, ROM byte or
bank changes, of the devices only what R545 lists keeps changing, and the machine stays in the dead halt. The premise
that no EI is pending is part of the invariant, which rules out other halted states. -/
def Obligations.DeadHaltIsForEver : Prop :=
  ∀ (s : State) (n : Nat), s.deadHalt = true → s.irq.eiPending = false →
    ∃ t, Host.Core.run Sys2Proof.core n s = .next t ∧ SameProgramState s t ∧ t.deadHalt = true
end

