-- ==== Sys2Proof/Laws/Bits.lean ====
section
/-! SUPPORT. Laws of the byte and word helpers and of the packed flags. -/

namespace Sys2Proof.Laws

open Sys2Proof.Bits Sys2Proof.Machine

@[simp] theorem hi_cat (h l : Byte) : hi (cat h l) = h := by
  apply BitVec.eq_of_toNat_eq
  simp only [hi, cat, BitVec.extractLsb'_toNat, BitVec.toNat_append]
  rw [Nat.shiftLeft_eq, Nat.mul_comm, ← Nat.two_pow_add_eq_or_of_lt (by have := l.isLt; omega)]
  have := h.isLt
  have := l.isLt
  simp only [Nat.shiftRight_eq_div_pow]
  omega

@[simp] theorem lo_cat (h l : Byte) : lo (cat h l) = l := by
  apply BitVec.eq_of_toNat_eq
  simp only [lo, cat, BitVec.extractLsb'_toNat, BitVec.toNat_append]
  rw [Nat.shiftLeft_eq, Nat.mul_comm, ← Nat.two_pow_add_eq_or_of_lt (by have := l.isLt; omega)]
  have := h.isLt
  have := l.isLt
  simp only [Nat.shiftRight_zero]
  omega

theorem hi_toNat (v : Word) : (hi v).toNat = v.toNat / 256 := by
  have := v.isLt
  simp only [hi, BitVec.extractLsb'_toNat, Nat.shiftRight_eq_div_pow]
  omega

theorem lo_toNat (v : Word) : (lo v).toNat = v.toNat % 256 := by
  simp [lo, BitVec.extractLsb'_toNat]

theorem cat_toNat (h l : Byte) : (cat h l).toNat = h.toNat * 256 + l.toNat := by
  simp only [cat, BitVec.toNat_append]
  rw [Nat.shiftLeft_eq, Nat.mul_comm, ← Nat.two_pow_add_eq_or_of_lt (by have := l.isLt; omega)]

@[simp] theorem cat_hi_lo (v : Word) : cat (hi v) (lo v) = v := by
  apply BitVec.eq_of_toNat_eq
  rw [cat_toNat, hi_toNat, lo_toNat]
  omega

theorem cat_inj {h l h' l' : Byte} (e : cat h l = cat h' l') : h = h' ∧ l = l' :=
  ⟨by simpa using congrArg hi e, by simpa using congrArg lo e⟩

@[simp] theorem packFlags_z (z n h c : Bool) : (packFlags z n h c)[7] = z := by
  cases z <;> cases n <;> cases h <;> cases c <;> decide

@[simp] theorem packFlags_n (z n h c : Bool) : (packFlags z n h c)[6] = n := by
  cases z <;> cases n <;> cases h <;> cases c <;> decide

@[simp] theorem packFlags_h (z n h c : Bool) : (packFlags z n h c)[5] = h := by
  cases z <;> cases n <;> cases h <;> cases c <;> decide

@[simp] theorem packFlags_c (z n h c : Bool) : (packFlags z n h c)[4] = c := by
  cases z <;> cases n <;> cases h <;> cases c <;> decide

@[simp] theorem packFlags_low (z n h c : Bool) : (packFlags z n h c).extractLsb' 0 4 = 0 := by
  cases z <;> cases n <;> cases h <;> cases c <;> decide

@[simp] theorem setFlags_flagZ (s : State) (z n h c : Bool) : (s.setFlags z n h c).flagZ = z := packFlags_z z n h c

@[simp] theorem setFlags_flagN (s : State) (z n h c : Bool) : (s.setFlags z n h c).flagN = n := packFlags_n z n h c

@[simp] theorem setFlags_flagH (s : State) (z n h c : Bool) : (s.setFlags z n h c).flagH = h := packFlags_h z n h c

@[simp] theorem setFlags_flagC (s : State) (z n h c : Bool) : (s.setFlags z n h c).flagC = c := packFlags_c z n h c

end Sys2Proof.Laws
end

