-- ==== Sys2Proof/Laws/Memory.lean ====
section
/-! SUPPORT. The laws of a store in canonical form: a read after a write, and that every memory operation keeps the
form. -/

namespace Sys2Proof.Laws

section
variable {α : Type} [DecidableEq α]

theorem storeWfFrom_mono {d : α} {lo lo' : Nat} {m : List (Nat × α)} (h : lo' ≤ lo) (w : storeWfFrom d lo m = true) :
    storeWfFrom d lo' m = true := by
  cases m with
  | nil => rfl
  | cons c rest =>
    simp only [storeWfFrom, Bool.and_eq_true, decide_eq_true_eq] at w ⊢
    exact ⟨⟨by omega, w.1.2⟩, w.2⟩

/-- A key below a canonical store's first reads the default. -/
theorem storeRead_below {d : α} {lo k : Nat} {m : List (Nat × α)} (w : storeWfFrom d lo m = true) (h : k < lo) :
    storeRead d m k = d := by
  induction m generalizing lo with
  | nil => rfl
  | cons c rest ih =>
    simp only [storeWfFrom, Bool.and_eq_true, decide_eq_true_eq] at w
    simp only [storeRead]
    rw [if_neg (by omega)]
    exact ih w.2 (by omega)

theorem storeWfFrom_write {d : α} {lo k : Nat} {v : α} {m : List (Nat × α)} (w : storeWfFrom d lo m = true)
    (h : lo ≤ k) : storeWfFrom d lo (storeWrite d m k v) = true := by
  induction m generalizing lo with
  | nil => simp only [storeWrite]; split <;> simp_all [storeWfFrom]
  | cons c rest ih =>
    simp only [storeWfFrom, Bool.and_eq_true, decide_eq_true_eq] at w
    simp only [storeWrite]
    repeat' split
    · simpa [storeWfFrom] using w
    · rename_i h1 h2
      simp only [storeWfFrom, Bool.and_eq_true, decide_eq_true_eq]
      exact ⟨⟨h, h2⟩, ⟨by omega, w.1.2⟩, w.2⟩
    · exact storeWfFrom_mono (by omega) w.2
    · rename_i h1 h2 h3
      simp only [storeWfFrom, Bool.and_eq_true, decide_eq_true_eq]
      exact ⟨⟨h, h3⟩, storeWfFrom_mono (by omega) w.2⟩
    · simp only [storeWfFrom, Bool.and_eq_true, decide_eq_true_eq]
      exact ⟨w.1, ih w.2 (by omega)⟩

/-- A write keeps the canonical form. -/
theorem storeWf_write {d : α} {m : List (Nat × α)} (k : Nat) (v : α) (w : storeWf d m = true) :
    storeWf d (storeWrite d m k v) = true := storeWfFrom_write w (Nat.zero_le k)

/-- A read of the key written gives the value written, in a canonical store. -/
theorem storeRead_write_same_from {d : α} {lo : Nat} {m : List (Nat × α)} (k : Nat) (v : α)
    (w : storeWfFrom d lo m = true) : storeRead d (storeWrite d m k v) k = v := by
  induction m generalizing lo with
  | nil => simp only [storeWrite]; split <;> simp_all [storeRead]
  | cons c rest ih =>
    simp only [storeWfFrom, Bool.and_eq_true, decide_eq_true_eq] at w
    simp only [storeWrite]
    repeat' split
    · rename_i h1 h2
      subst h2
      simp only [storeRead]
      rw [if_neg (by omega)]
      exact storeRead_below w.2 (by omega)
    · simp [storeRead]
    · rename_i h1 h2 h3
      subst h3
      exact storeRead_below w.2 (by omega)
    · simp [storeRead]
    · rename_i h1 h2
      simp only [storeRead]
      rw [if_neg (by omega)]
      exact ih w.2

/-- A read of another key gives what it gave before, in any store. -/
theorem storeRead_write_other {d : α} (m : List (Nat × α)) {k k' : Nat} (v : α) (h : k' ≠ k) :
    storeRead d (storeWrite d m k v) k' = storeRead d m k' := by
  induction m with
  | nil => simp only [storeWrite]; split <;> simp_all [storeRead, Ne.symm h]
  | cons c rest ih =>
    simp only [storeWrite]
    repeat' split
    · rfl
    · simp [storeRead, Ne.symm h]
    · rename_i h1 h2 h3
      simp only [storeRead]
      rw [if_neg (by omega)]
    · rename_i h1 h2 h3
      simp only [storeRead]
      rw [if_neg (by omega), if_neg (by omega)]
    · simp only [storeRead, ih]

/-- The keys of a written store are old keys or the key written. -/
theorem mem_storeWrite {d : α} {m : List (Nat × α)} {k : Nat} {v : α} {c : Nat × α} (h : c ∈ storeWrite d m k v) :
    c ∈ m ∨ c = (k, v) := by
  induction m with
  | nil =>
    simp only [storeWrite] at h
    split at h <;> simp_all
  | cons c' rest ih =>
    simp only [storeWrite] at h
    repeat' split at h
    all_goals simp only [List.mem_cons] at h ⊢
    · exact .inl h
    · rcases h with h | h | h
      · exact .inr h
      · exact .inl (.inl h)
      · exact .inl (.inr h)
    · exact .inl (.inr h)
    · rcases h with h | h
      · exact .inr h
      · exact .inl (.inr h)
    · rcases h with h | h
      · exact .inl (.inl h)
      · rcases ih h with h | h
        · exact .inl (.inr h)
        · exact .inr h

end

theorem memory_wf_write {m : List (Nat × Byte)} (k : Nat) (v : Byte) (w : Memory.wf m = true) :
    Memory.wf (Memory.write m k v) = true := storeWf_write k v w

theorem memory_wf_writeList {m : List (Nat × Byte)} (k : Nat) (vs : List Byte) (w : Memory.wf m = true) :
    Memory.wf (Memory.writeList m k vs) = true := by
  induction vs generalizing m k with
  | nil => exact w
  | cons v rest ih => exact ih (k + 1) (memory_wf_write k v w)

theorem memory_read_write_other (m : List (Nat × Byte)) {k k' : Nat} (v : Byte) (h : k' ≠ k) :
    Memory.read (Memory.write m k v) k' = Memory.read m k' := storeRead_write_other m v h

/-- A read of the byte written, in a canonical memory. -/
theorem memory_read_write_same {m : List (Nat × Byte)} (k : Nat) (v : Byte) (w : Memory.wf m = true) :
    Memory.read (Memory.write m k v) k = v := storeRead_write_same_from k v w

theorem memory_read_writeList (vs : List Byte) (m : List (Nat × Byte)) (k0 k : Nat) (w : Memory.wf m = true) :
    Memory.read (Memory.writeList m k0 vs) k =
      if k0 ≤ k ∧ k < k0 + vs.length then vs.getD (k - k0) 0 else Memory.read m k := by
  induction vs generalizing m k0 with
  | nil => rw [if_neg (by simp)]; rfl
  | cons v vs ih =>
    have h := ih (Memory.write m k0 v) (k0 + 1) (memory_wf_write _ _ w)
    show Memory.read (Memory.writeList (Memory.write m k0 v) (k0 + 1) vs) k = _
    rw [h]
    by_cases h1 : k0 + 1 ≤ k ∧ k < k0 + 1 + vs.length
    · rw [if_pos h1, if_pos (by simp; omega)]
      have : k - k0 = (k - (k0 + 1)) + 1 := by omega
      rw [this]; rfl
    · rw [if_neg h1]
      by_cases h2 : k = k0
      · subst h2
        rw [if_pos (by simp)]
        simp
        exact memory_read_write_same _ _ w
      · rw [if_neg (by simp; omega)]
        exact memory_read_write_other _ _ h2

/-- What an image at offset 0 of an empty memory reads as: 0x00 past its end. -/
theorem memory_read_image (vs : List Byte) (k : Nat) : Memory.read (Memory.writeList [] 0 vs) k = vs.getD k 0 := by
  rw [memory_read_writeList vs [] 0 k rfl]
  split
  · simp
  · rw [List.getD_eq_getElem?_getD, List.getElem?_eq_none (by omega)]; rfl

end Sys2Proof.Laws
end

