-- ==== Sys2Proof/Laws/State.lean ====
section
/-! SUPPORT. One lemma for each field that an update leaves or writes, each true by `rfl`, so that no proof has to
unfold a record update. -/

namespace Sys2Proof.Laws

open Sys2Proof.Machine Sys2Proof.Bits

/-! ### setFlags -/

@[simp] theorem setFlags_a (s : State) (z n h c : Bool) : (s.setFlags z n h c).cpu.a = s.cpu.a := rfl
@[simp] theorem setFlags_f (s : State) (z n h c : Bool) : (s.setFlags z n h c).cpu.f = packFlags z n h c := rfl
@[simp] theorem setFlags_b (s : State) (z n h c : Bool) : (s.setFlags z n h c).cpu.b = s.cpu.b := rfl
@[simp] theorem setFlags_c (s : State) (z n h c : Bool) : (s.setFlags z n h c).cpu.c = s.cpu.c := rfl
@[simp] theorem setFlags_d (s : State) (z n h c : Bool) : (s.setFlags z n h c).cpu.d = s.cpu.d := rfl
@[simp] theorem setFlags_e (s : State) (z n h c : Bool) : (s.setFlags z n h c).cpu.e = s.cpu.e := rfl
@[simp] theorem setFlags_h (s : State) (z n h c : Bool) : (s.setFlags z n h c).cpu.h = s.cpu.h := rfl
@[simp] theorem setFlags_l (s : State) (z n h c : Bool) : (s.setFlags z n h c).cpu.l = s.cpu.l := rfl
@[simp] theorem setFlags_sp (s : State) (z n h c : Bool) : (s.setFlags z n h c).cpu.sp = s.cpu.sp := rfl
@[simp] theorem setFlags_pc (s : State) (z n h c : Bool) : (s.setFlags z n h c).cpu.pc = s.cpu.pc := rfl
@[simp] theorem setFlags_irq (s : State) (z n h c : Bool) : (s.setFlags z n h c).irq = s.irq := rfl
@[simp] theorem setFlags_timer (s : State) (z n h c : Bool) : (s.setFlags z n h c).timer = s.timer := rfl
@[simp] theorem setFlags_ppu (s : State) (z n h c : Bool) : (s.setFlags z n h c).ppu = s.ppu := rfl
@[simp] theorem setFlags_cart (s : State) (z n h c : Bool) : (s.setFlags z n h c).cart = s.cart := rfl
@[simp] theorem setFlags_joypad (s : State) (z n h c : Bool) : (s.setFlags z n h c).joypad = s.joypad := rfl
@[simp] theorem setFlags_mem (s : State) (z n h c : Bool) : (s.setFlags z n h c).mem = s.mem := rfl
@[simp] theorem setFlags_frame (s : State) (z n h c : Bool) : (s.setFlags z n h c).frame = s.frame := rfl
@[simp] theorem setFlags_presented (s : State) (z n h c : Bool) : (s.setFlags z n h c).presented = s.presented := rfl
@[simp] theorem setFlags_cycles (s : State) (z n h c : Bool) : (s.setFlags z n h c).cycles = s.cycles := rfl
@[simp] theorem setFlags_cost (s : State) (z n h c : Bool) : (s.setFlags z n h c).cost = s.cost := rfl
@[simp] theorem setFlags_hostInput (s : State) (z n h c : Bool) : (s.setFlags z n h c).hostInput = s.hostInput := rfl
@[simp] theorem setFlags_busRead (s : State) (z n h c : Bool) (x : Word) : (s.setFlags z n h c).busRead x = s.busRead x := rfl

/-! ### setA -/

@[simp] theorem setA_a (s : State) (v : Byte) : (s.setA v).cpu.a = v := rfl
@[simp] theorem setA_f (s : State) (v : Byte) : (s.setA v).cpu.f = s.cpu.f := rfl
@[simp] theorem setA_b (s : State) (v : Byte) : (s.setA v).cpu.b = s.cpu.b := rfl
@[simp] theorem setA_c (s : State) (v : Byte) : (s.setA v).cpu.c = s.cpu.c := rfl
@[simp] theorem setA_d (s : State) (v : Byte) : (s.setA v).cpu.d = s.cpu.d := rfl
@[simp] theorem setA_e (s : State) (v : Byte) : (s.setA v).cpu.e = s.cpu.e := rfl
@[simp] theorem setA_h (s : State) (v : Byte) : (s.setA v).cpu.h = s.cpu.h := rfl
@[simp] theorem setA_l (s : State) (v : Byte) : (s.setA v).cpu.l = s.cpu.l := rfl
@[simp] theorem setA_sp (s : State) (v : Byte) : (s.setA v).cpu.sp = s.cpu.sp := rfl
@[simp] theorem setA_pc (s : State) (v : Byte) : (s.setA v).cpu.pc = s.cpu.pc := rfl
@[simp] theorem setA_irq (s : State) (v : Byte) : (s.setA v).irq = s.irq := rfl
@[simp] theorem setA_timer (s : State) (v : Byte) : (s.setA v).timer = s.timer := rfl
@[simp] theorem setA_ppu (s : State) (v : Byte) : (s.setA v).ppu = s.ppu := rfl
@[simp] theorem setA_cart (s : State) (v : Byte) : (s.setA v).cart = s.cart := rfl
@[simp] theorem setA_joypad (s : State) (v : Byte) : (s.setA v).joypad = s.joypad := rfl
@[simp] theorem setA_mem (s : State) (v : Byte) : (s.setA v).mem = s.mem := rfl
@[simp] theorem setA_frame (s : State) (v : Byte) : (s.setA v).frame = s.frame := rfl
@[simp] theorem setA_presented (s : State) (v : Byte) : (s.setA v).presented = s.presented := rfl
@[simp] theorem setA_cycles (s : State) (v : Byte) : (s.setA v).cycles = s.cycles := rfl
@[simp] theorem setA_cost (s : State) (v : Byte) : (s.setA v).cost = s.cost := rfl
@[simp] theorem setA_hostInput (s : State) (v : Byte) : (s.setA v).hostInput = s.hostInput := rfl
@[simp] theorem setA_busRead (s : State) (v : Byte) (x : Word) : (s.setA v).busRead x = s.busRead x := rfl

/-! ### setSp -/

@[simp] theorem setSp_a (s : State) (v : Word) : (s.setSp v).cpu.a = s.cpu.a := rfl
@[simp] theorem setSp_f (s : State) (v : Word) : (s.setSp v).cpu.f = s.cpu.f := rfl
@[simp] theorem setSp_b (s : State) (v : Word) : (s.setSp v).cpu.b = s.cpu.b := rfl
@[simp] theorem setSp_c (s : State) (v : Word) : (s.setSp v).cpu.c = s.cpu.c := rfl
@[simp] theorem setSp_d (s : State) (v : Word) : (s.setSp v).cpu.d = s.cpu.d := rfl
@[simp] theorem setSp_e (s : State) (v : Word) : (s.setSp v).cpu.e = s.cpu.e := rfl
@[simp] theorem setSp_h (s : State) (v : Word) : (s.setSp v).cpu.h = s.cpu.h := rfl
@[simp] theorem setSp_l (s : State) (v : Word) : (s.setSp v).cpu.l = s.cpu.l := rfl
@[simp] theorem setSp_sp (s : State) (v : Word) : (s.setSp v).cpu.sp = v := rfl
@[simp] theorem setSp_pc (s : State) (v : Word) : (s.setSp v).cpu.pc = s.cpu.pc := rfl
@[simp] theorem setSp_irq (s : State) (v : Word) : (s.setSp v).irq = s.irq := rfl
@[simp] theorem setSp_timer (s : State) (v : Word) : (s.setSp v).timer = s.timer := rfl
@[simp] theorem setSp_ppu (s : State) (v : Word) : (s.setSp v).ppu = s.ppu := rfl
@[simp] theorem setSp_cart (s : State) (v : Word) : (s.setSp v).cart = s.cart := rfl
@[simp] theorem setSp_joypad (s : State) (v : Word) : (s.setSp v).joypad = s.joypad := rfl
@[simp] theorem setSp_mem (s : State) (v : Word) : (s.setSp v).mem = s.mem := rfl
@[simp] theorem setSp_frame (s : State) (v : Word) : (s.setSp v).frame = s.frame := rfl
@[simp] theorem setSp_presented (s : State) (v : Word) : (s.setSp v).presented = s.presented := rfl
@[simp] theorem setSp_cycles (s : State) (v : Word) : (s.setSp v).cycles = s.cycles := rfl
@[simp] theorem setSp_cost (s : State) (v : Word) : (s.setSp v).cost = s.cost := rfl
@[simp] theorem setSp_hostInput (s : State) (v : Word) : (s.setSp v).hostInput = s.hostInput := rfl
@[simp] theorem setSp_busRead (s : State) (v : Word) (x : Word) : (s.setSp v).busRead x = s.busRead x := rfl

/-! ### setPc -/

@[simp] theorem setPc_a (s : State) (v : Word) : (s.setPc v).cpu.a = s.cpu.a := rfl
@[simp] theorem setPc_f (s : State) (v : Word) : (s.setPc v).cpu.f = s.cpu.f := rfl
@[simp] theorem setPc_b (s : State) (v : Word) : (s.setPc v).cpu.b = s.cpu.b := rfl
@[simp] theorem setPc_c (s : State) (v : Word) : (s.setPc v).cpu.c = s.cpu.c := rfl
@[simp] theorem setPc_d (s : State) (v : Word) : (s.setPc v).cpu.d = s.cpu.d := rfl
@[simp] theorem setPc_e (s : State) (v : Word) : (s.setPc v).cpu.e = s.cpu.e := rfl
@[simp] theorem setPc_h (s : State) (v : Word) : (s.setPc v).cpu.h = s.cpu.h := rfl
@[simp] theorem setPc_l (s : State) (v : Word) : (s.setPc v).cpu.l = s.cpu.l := rfl
@[simp] theorem setPc_sp (s : State) (v : Word) : (s.setPc v).cpu.sp = s.cpu.sp := rfl
@[simp] theorem setPc_pc (s : State) (v : Word) : (s.setPc v).cpu.pc = v := rfl
@[simp] theorem setPc_irq (s : State) (v : Word) : (s.setPc v).irq = s.irq := rfl
@[simp] theorem setPc_timer (s : State) (v : Word) : (s.setPc v).timer = s.timer := rfl
@[simp] theorem setPc_ppu (s : State) (v : Word) : (s.setPc v).ppu = s.ppu := rfl
@[simp] theorem setPc_cart (s : State) (v : Word) : (s.setPc v).cart = s.cart := rfl
@[simp] theorem setPc_joypad (s : State) (v : Word) : (s.setPc v).joypad = s.joypad := rfl
@[simp] theorem setPc_mem (s : State) (v : Word) : (s.setPc v).mem = s.mem := rfl
@[simp] theorem setPc_frame (s : State) (v : Word) : (s.setPc v).frame = s.frame := rfl
@[simp] theorem setPc_presented (s : State) (v : Word) : (s.setPc v).presented = s.presented := rfl
@[simp] theorem setPc_cycles (s : State) (v : Word) : (s.setPc v).cycles = s.cycles := rfl
@[simp] theorem setPc_cost (s : State) (v : Word) : (s.setPc v).cost = s.cost := rfl
@[simp] theorem setPc_hostInput (s : State) (v : Word) : (s.setPc v).hostInput = s.hostInput := rfl
@[simp] theorem setPc_busRead (s : State) (v : Word) (x : Word) : (s.setPc v).busRead x = s.busRead x := rfl

/-! ### setBc -/

@[simp] theorem setBc_a (s : State) (v : Word) : (s.setBc v).cpu.a = s.cpu.a := rfl
@[simp] theorem setBc_f (s : State) (v : Word) : (s.setBc v).cpu.f = s.cpu.f := rfl
@[simp] theorem setBc_b (s : State) (v : Word) : (s.setBc v).cpu.b = hi v := rfl
@[simp] theorem setBc_c (s : State) (v : Word) : (s.setBc v).cpu.c = lo v := rfl
@[simp] theorem setBc_d (s : State) (v : Word) : (s.setBc v).cpu.d = s.cpu.d := rfl
@[simp] theorem setBc_e (s : State) (v : Word) : (s.setBc v).cpu.e = s.cpu.e := rfl
@[simp] theorem setBc_h (s : State) (v : Word) : (s.setBc v).cpu.h = s.cpu.h := rfl
@[simp] theorem setBc_l (s : State) (v : Word) : (s.setBc v).cpu.l = s.cpu.l := rfl
@[simp] theorem setBc_sp (s : State) (v : Word) : (s.setBc v).cpu.sp = s.cpu.sp := rfl
@[simp] theorem setBc_pc (s : State) (v : Word) : (s.setBc v).cpu.pc = s.cpu.pc := rfl
@[simp] theorem setBc_irq (s : State) (v : Word) : (s.setBc v).irq = s.irq := rfl
@[simp] theorem setBc_timer (s : State) (v : Word) : (s.setBc v).timer = s.timer := rfl
@[simp] theorem setBc_ppu (s : State) (v : Word) : (s.setBc v).ppu = s.ppu := rfl
@[simp] theorem setBc_cart (s : State) (v : Word) : (s.setBc v).cart = s.cart := rfl
@[simp] theorem setBc_joypad (s : State) (v : Word) : (s.setBc v).joypad = s.joypad := rfl
@[simp] theorem setBc_mem (s : State) (v : Word) : (s.setBc v).mem = s.mem := rfl
@[simp] theorem setBc_frame (s : State) (v : Word) : (s.setBc v).frame = s.frame := rfl
@[simp] theorem setBc_presented (s : State) (v : Word) : (s.setBc v).presented = s.presented := rfl
@[simp] theorem setBc_cycles (s : State) (v : Word) : (s.setBc v).cycles = s.cycles := rfl
@[simp] theorem setBc_cost (s : State) (v : Word) : (s.setBc v).cost = s.cost := rfl
@[simp] theorem setBc_hostInput (s : State) (v : Word) : (s.setBc v).hostInput = s.hostInput := rfl
@[simp] theorem setBc_busRead (s : State) (v : Word) (x : Word) : (s.setBc v).busRead x = s.busRead x := rfl

/-! ### setDe -/

@[simp] theorem setDe_a (s : State) (v : Word) : (s.setDe v).cpu.a = s.cpu.a := rfl
@[simp] theorem setDe_f (s : State) (v : Word) : (s.setDe v).cpu.f = s.cpu.f := rfl
@[simp] theorem setDe_b (s : State) (v : Word) : (s.setDe v).cpu.b = s.cpu.b := rfl
@[simp] theorem setDe_c (s : State) (v : Word) : (s.setDe v).cpu.c = s.cpu.c := rfl
@[simp] theorem setDe_d (s : State) (v : Word) : (s.setDe v).cpu.d = hi v := rfl
@[simp] theorem setDe_e (s : State) (v : Word) : (s.setDe v).cpu.e = lo v := rfl
@[simp] theorem setDe_h (s : State) (v : Word) : (s.setDe v).cpu.h = s.cpu.h := rfl
@[simp] theorem setDe_l (s : State) (v : Word) : (s.setDe v).cpu.l = s.cpu.l := rfl
@[simp] theorem setDe_sp (s : State) (v : Word) : (s.setDe v).cpu.sp = s.cpu.sp := rfl
@[simp] theorem setDe_pc (s : State) (v : Word) : (s.setDe v).cpu.pc = s.cpu.pc := rfl
@[simp] theorem setDe_irq (s : State) (v : Word) : (s.setDe v).irq = s.irq := rfl
@[simp] theorem setDe_timer (s : State) (v : Word) : (s.setDe v).timer = s.timer := rfl
@[simp] theorem setDe_ppu (s : State) (v : Word) : (s.setDe v).ppu = s.ppu := rfl
@[simp] theorem setDe_cart (s : State) (v : Word) : (s.setDe v).cart = s.cart := rfl
@[simp] theorem setDe_joypad (s : State) (v : Word) : (s.setDe v).joypad = s.joypad := rfl
@[simp] theorem setDe_mem (s : State) (v : Word) : (s.setDe v).mem = s.mem := rfl
@[simp] theorem setDe_frame (s : State) (v : Word) : (s.setDe v).frame = s.frame := rfl
@[simp] theorem setDe_presented (s : State) (v : Word) : (s.setDe v).presented = s.presented := rfl
@[simp] theorem setDe_cycles (s : State) (v : Word) : (s.setDe v).cycles = s.cycles := rfl
@[simp] theorem setDe_cost (s : State) (v : Word) : (s.setDe v).cost = s.cost := rfl
@[simp] theorem setDe_hostInput (s : State) (v : Word) : (s.setDe v).hostInput = s.hostInput := rfl
@[simp] theorem setDe_busRead (s : State) (v : Word) (x : Word) : (s.setDe v).busRead x = s.busRead x := rfl

/-! ### setHl -/

@[simp] theorem setHl_a (s : State) (v : Word) : (s.setHl v).cpu.a = s.cpu.a := rfl
@[simp] theorem setHl_f (s : State) (v : Word) : (s.setHl v).cpu.f = s.cpu.f := rfl
@[simp] theorem setHl_b (s : State) (v : Word) : (s.setHl v).cpu.b = s.cpu.b := rfl
@[simp] theorem setHl_c (s : State) (v : Word) : (s.setHl v).cpu.c = s.cpu.c := rfl
@[simp] theorem setHl_d (s : State) (v : Word) : (s.setHl v).cpu.d = s.cpu.d := rfl
@[simp] theorem setHl_e (s : State) (v : Word) : (s.setHl v).cpu.e = s.cpu.e := rfl
@[simp] theorem setHl_h (s : State) (v : Word) : (s.setHl v).cpu.h = hi v := rfl
@[simp] theorem setHl_l (s : State) (v : Word) : (s.setHl v).cpu.l = lo v := rfl
@[simp] theorem setHl_sp (s : State) (v : Word) : (s.setHl v).cpu.sp = s.cpu.sp := rfl
@[simp] theorem setHl_pc (s : State) (v : Word) : (s.setHl v).cpu.pc = s.cpu.pc := rfl
@[simp] theorem setHl_irq (s : State) (v : Word) : (s.setHl v).irq = s.irq := rfl
@[simp] theorem setHl_timer (s : State) (v : Word) : (s.setHl v).timer = s.timer := rfl
@[simp] theorem setHl_ppu (s : State) (v : Word) : (s.setHl v).ppu = s.ppu := rfl
@[simp] theorem setHl_cart (s : State) (v : Word) : (s.setHl v).cart = s.cart := rfl
@[simp] theorem setHl_joypad (s : State) (v : Word) : (s.setHl v).joypad = s.joypad := rfl
@[simp] theorem setHl_mem (s : State) (v : Word) : (s.setHl v).mem = s.mem := rfl
@[simp] theorem setHl_frame (s : State) (v : Word) : (s.setHl v).frame = s.frame := rfl
@[simp] theorem setHl_presented (s : State) (v : Word) : (s.setHl v).presented = s.presented := rfl
@[simp] theorem setHl_cycles (s : State) (v : Word) : (s.setHl v).cycles = s.cycles := rfl
@[simp] theorem setHl_cost (s : State) (v : Word) : (s.setHl v).cost = s.cost := rfl
@[simp] theorem setHl_hostInput (s : State) (v : Word) : (s.setHl v).hostInput = s.hostInput := rfl
@[simp] theorem setHl_busRead (s : State) (v : Word) (x : Word) : (s.setHl v).busRead x = s.busRead x := rfl

/-! ### setAf -/

@[simp] theorem setAf_a (s : State) (v : Word) : (s.setAf v).cpu.a = hi v := rfl
@[simp] theorem setAf_f (s : State) (v : Word) : (s.setAf v).cpu.f = lo v &&& 0xF0 := rfl
@[simp] theorem setAf_b (s : State) (v : Word) : (s.setAf v).cpu.b = s.cpu.b := rfl
@[simp] theorem setAf_c (s : State) (v : Word) : (s.setAf v).cpu.c = s.cpu.c := rfl
@[simp] theorem setAf_d (s : State) (v : Word) : (s.setAf v).cpu.d = s.cpu.d := rfl
@[simp] theorem setAf_e (s : State) (v : Word) : (s.setAf v).cpu.e = s.cpu.e := rfl
@[simp] theorem setAf_h (s : State) (v : Word) : (s.setAf v).cpu.h = s.cpu.h := rfl
@[simp] theorem setAf_l (s : State) (v : Word) : (s.setAf v).cpu.l = s.cpu.l := rfl
@[simp] theorem setAf_sp (s : State) (v : Word) : (s.setAf v).cpu.sp = s.cpu.sp := rfl
@[simp] theorem setAf_pc (s : State) (v : Word) : (s.setAf v).cpu.pc = s.cpu.pc := rfl
@[simp] theorem setAf_irq (s : State) (v : Word) : (s.setAf v).irq = s.irq := rfl
@[simp] theorem setAf_timer (s : State) (v : Word) : (s.setAf v).timer = s.timer := rfl
@[simp] theorem setAf_ppu (s : State) (v : Word) : (s.setAf v).ppu = s.ppu := rfl
@[simp] theorem setAf_cart (s : State) (v : Word) : (s.setAf v).cart = s.cart := rfl
@[simp] theorem setAf_joypad (s : State) (v : Word) : (s.setAf v).joypad = s.joypad := rfl
@[simp] theorem setAf_mem (s : State) (v : Word) : (s.setAf v).mem = s.mem := rfl
@[simp] theorem setAf_frame (s : State) (v : Word) : (s.setAf v).frame = s.frame := rfl
@[simp] theorem setAf_presented (s : State) (v : Word) : (s.setAf v).presented = s.presented := rfl
@[simp] theorem setAf_cycles (s : State) (v : Word) : (s.setAf v).cycles = s.cycles := rfl
@[simp] theorem setAf_cost (s : State) (v : Word) : (s.setAf v).cost = s.cost := rfl
@[simp] theorem setAf_hostInput (s : State) (v : Word) : (s.setAf v).hostInput = s.hostInput := rfl
@[simp] theorem setAf_busRead (s : State) (v : Word) (x : Word) : (s.setAf v).busRead x = s.busRead x := rfl

/-! ### withCost, request, memWrite -/

@[simp] theorem withCost_cpu (s : State) (n : Nat) : (s.withCost n).cpu = s.cpu := rfl
@[simp] theorem withCost_irq (s : State) (n : Nat) : (s.withCost n).irq = s.irq := rfl
@[simp] theorem withCost_timer (s : State) (n : Nat) : (s.withCost n).timer = s.timer := rfl
@[simp] theorem withCost_ppu (s : State) (n : Nat) : (s.withCost n).ppu = s.ppu := rfl
@[simp] theorem withCost_cart (s : State) (n : Nat) : (s.withCost n).cart = s.cart := rfl
@[simp] theorem withCost_joypad (s : State) (n : Nat) : (s.withCost n).joypad = s.joypad := rfl
@[simp] theorem withCost_mem (s : State) (n : Nat) : (s.withCost n).mem = s.mem := rfl
@[simp] theorem withCost_frame (s : State) (n : Nat) : (s.withCost n).frame = s.frame := rfl
@[simp] theorem withCost_presented (s : State) (n : Nat) : (s.withCost n).presented = s.presented := rfl
@[simp] theorem withCost_cycles (s : State) (n : Nat) : (s.withCost n).cycles = s.cycles := rfl
@[simp] theorem withCost_hostInput (s : State) (n : Nat) : (s.withCost n).hostInput = s.hostInput := rfl
@[simp] theorem withCost_cost (s : State) (n : Nat) : (s.withCost n).cost = n := rfl
@[simp] theorem withCost_busRead (s : State) (n : Nat) (x : Word) : (s.withCost n).busRead x = s.busRead x := rfl

@[simp] theorem request_cpu (s : State) (k : Nat) : (s.request k).cpu = s.cpu := rfl
@[simp] theorem request_timer (s : State) (k : Nat) : (s.request k).timer = s.timer := rfl
@[simp] theorem request_ppu (s : State) (k : Nat) : (s.request k).ppu = s.ppu := rfl
@[simp] theorem request_cart (s : State) (k : Nat) : (s.request k).cart = s.cart := rfl
@[simp] theorem request_joypad (s : State) (k : Nat) : (s.request k).joypad = s.joypad := rfl
@[simp] theorem request_mem (s : State) (k : Nat) : (s.request k).mem = s.mem := rfl
@[simp] theorem request_frame (s : State) (k : Nat) : (s.request k).frame = s.frame := rfl
@[simp] theorem request_presented (s : State) (k : Nat) : (s.request k).presented = s.presented := rfl
@[simp] theorem request_cycles (s : State) (k : Nat) : (s.request k).cycles = s.cycles := rfl
@[simp] theorem request_cost (s : State) (k : Nat) : (s.request k).cost = s.cost := rfl
@[simp] theorem request_hostInput (s : State) (k : Nat) : (s.request k).hostInput = s.hostInput := rfl
@[simp] theorem request_ime (s : State) (k : Nat) : (s.request k).irq.ime = s.irq.ime := rfl
@[simp] theorem request_eiPending (s : State) (k : Nat) : (s.request k).irq.eiPending = s.irq.eiPending := rfl
@[simp] theorem request_halted (s : State) (k : Nat) : (s.request k).irq.halted = s.irq.halted := rfl
@[simp] theorem request_ieReg (s : State) (k : Nat) : (s.request k).irq.ieReg = s.irq.ieReg := rfl
@[simp] theorem request_ifReg (s : State) (k : Nat) : (s.request k).irq.ifReg = s.irq.ifReg ||| (1#8 <<< k) := rfl

@[simp] theorem memWrite_cpu (s : State) (n : Nat) (v : Byte) : (s.memWrite n v).cpu = s.cpu := rfl
@[simp] theorem memWrite_irq (s : State) (n : Nat) (v : Byte) : (s.memWrite n v).irq = s.irq := rfl
@[simp] theorem memWrite_timer (s : State) (n : Nat) (v : Byte) : (s.memWrite n v).timer = s.timer := rfl
@[simp] theorem memWrite_ppu (s : State) (n : Nat) (v : Byte) : (s.memWrite n v).ppu = s.ppu := rfl
@[simp] theorem memWrite_cart (s : State) (n : Nat) (v : Byte) : (s.memWrite n v).cart = s.cart := rfl
@[simp] theorem memWrite_joypad (s : State) (n : Nat) (v : Byte) : (s.memWrite n v).joypad = s.joypad := rfl
@[simp] theorem memWrite_frame (s : State) (n : Nat) (v : Byte) : (s.memWrite n v).frame = s.frame := rfl
@[simp] theorem memWrite_presented (s : State) (n : Nat) (v : Byte) : (s.memWrite n v).presented = s.presented := rfl
@[simp] theorem memWrite_cycles (s : State) (n : Nat) (v : Byte) : (s.memWrite n v).cycles = s.cycles := rfl
@[simp] theorem memWrite_cost (s : State) (n : Nat) (v : Byte) : (s.memWrite n v).cost = s.cost := rfl
@[simp] theorem memWrite_hostInput (s : State) (n : Nat) (v : Byte) : (s.memWrite n v).hostInput = s.hostInput := rfl
@[simp] theorem memWrite_mem (s : State) (n : Nat) (v : Byte) : (s.memWrite n v).mem = Memory.write s.mem n v := rfl

/-! ### The 16-bit views -/

@[simp] theorem setBc_bc (s : State) (v : Word) : (s.setBc v).bc = v := cat_hi_lo v
@[simp] theorem setBc_de (s : State) (v : Word) : (s.setBc v).de = s.de := rfl
@[simp] theorem setBc_hl (s : State) (v : Word) : (s.setBc v).hl = s.hl := rfl
@[simp] theorem setDe_de (s : State) (v : Word) : (s.setDe v).de = v := cat_hi_lo v
@[simp] theorem setDe_bc (s : State) (v : Word) : (s.setDe v).bc = s.bc := rfl
@[simp] theorem setDe_hl (s : State) (v : Word) : (s.setDe v).hl = s.hl := rfl
@[simp] theorem setHl_hl (s : State) (v : Word) : (s.setHl v).hl = v := cat_hi_lo v
@[simp] theorem setHl_bc (s : State) (v : Word) : (s.setHl v).bc = s.bc := rfl
@[simp] theorem setHl_de (s : State) (v : Word) : (s.setHl v).de = s.de := rfl
@[simp] theorem setA_bc (s : State) (v : Byte) : (s.setA v).bc = s.bc := rfl
@[simp] theorem setA_de (s : State) (v : Byte) : (s.setA v).de = s.de := rfl
@[simp] theorem setA_hl (s : State) (v : Byte) : (s.setA v).hl = s.hl := rfl
@[simp] theorem setSp_bc (s : State) (v : Word) : (s.setSp v).bc = s.bc := rfl
@[simp] theorem setSp_de (s : State) (v : Word) : (s.setSp v).de = s.de := rfl
@[simp] theorem setSp_hl (s : State) (v : Word) : (s.setSp v).hl = s.hl := rfl
@[simp] theorem setPc_bc (s : State) (v : Word) : (s.setPc v).bc = s.bc := rfl
@[simp] theorem setPc_de (s : State) (v : Word) : (s.setPc v).de = s.de := rfl
@[simp] theorem setPc_hl (s : State) (v : Word) : (s.setPc v).hl = s.hl := rfl
@[simp] theorem setFlags_bc (s : State) (z n h c : Bool) : (s.setFlags z n h c).bc = s.bc := rfl
@[simp] theorem setFlags_de (s : State) (z n h c : Bool) : (s.setFlags z n h c).de = s.de := rfl
@[simp] theorem setFlags_hl (s : State) (z n h c : Bool) : (s.setFlags z n h c).hl = s.hl := rfl

end Sys2Proof.Laws
end

