-- ==== Sys2Proof/Laws/Bus.lean ====
section
/-! SUPPORT. The bus: which address each region is, what a write leaves, and that memory keeps its form. -/

namespace Sys2Proof.Laws

open Sys2Proof.Machine Sys2Proof.Bits

/-! ### Regions -/

/-- The one address of a region that is a register (20_memory.md R112). -/
def regionAddr (r : Region) : Option Nat :=
  match r with
  | .joypad => some 0xFF00
  | .div => some 0xFF04
  | .tima => some 0xFF05
  | .tma => some 0xFF06
  | .tac => some 0xFF07
  | .ifReg => some 0xFF0F
  | .lcdc => some 0xFF40
  | .stat => some 0xFF41
  | .scy => some 0xFF42
  | .scx => some 0xFF43
  | .ly => some 0xFF44
  | .lyc => some 0xFF45
  | .dma => some 0xFF46
  | .bgp => some 0xFF47
  | .obp0 => some 0xFF48
  | .obp1 => some 0xFF49
  | .wy => some 0xFF4A
  | .wx => some 0xFF4B
  | .bootDisable => some 0xFF50
  | .ie => some 0xFFFF
  | _ => none

theorem routeIo_addr {n k : Nat} (h : regionAddr (routeIo n) = some k) : n = k := by
  unfold routeIo at h
  by_cases h0 : n = 0xFF00; · rw [if_pos h0] at h; exact h0.trans (Option.some.inj h)
  rw [if_neg h0] at h
  by_cases h0 : n = 0xFF04; · rw [if_pos h0] at h; exact h0.trans (Option.some.inj h)
  rw [if_neg h0] at h
  by_cases h0 : n = 0xFF05; · rw [if_pos h0] at h; exact h0.trans (Option.some.inj h)
  rw [if_neg h0] at h
  by_cases h0 : n = 0xFF06; · rw [if_pos h0] at h; exact h0.trans (Option.some.inj h)
  rw [if_neg h0] at h
  by_cases h0 : n = 0xFF07; · rw [if_pos h0] at h; exact h0.trans (Option.some.inj h)
  rw [if_neg h0] at h
  by_cases h0 : n = 0xFF0F; · rw [if_pos h0] at h; exact h0.trans (Option.some.inj h)
  rw [if_neg h0] at h
  by_cases h0 : n = 0xFF40; · rw [if_pos h0] at h; exact h0.trans (Option.some.inj h)
  rw [if_neg h0] at h
  by_cases h0 : n = 0xFF41; · rw [if_pos h0] at h; exact h0.trans (Option.some.inj h)
  rw [if_neg h0] at h
  by_cases h0 : n = 0xFF42; · rw [if_pos h0] at h; exact h0.trans (Option.some.inj h)
  rw [if_neg h0] at h
  by_cases h0 : n = 0xFF43; · rw [if_pos h0] at h; exact h0.trans (Option.some.inj h)
  rw [if_neg h0] at h
  by_cases h0 : n = 0xFF44; · rw [if_pos h0] at h; exact h0.trans (Option.some.inj h)
  rw [if_neg h0] at h
  by_cases h0 : n = 0xFF45; · rw [if_pos h0] at h; exact h0.trans (Option.some.inj h)
  rw [if_neg h0] at h
  by_cases h0 : n = 0xFF46; · rw [if_pos h0] at h; exact h0.trans (Option.some.inj h)
  rw [if_neg h0] at h
  by_cases h0 : n = 0xFF47; · rw [if_pos h0] at h; exact h0.trans (Option.some.inj h)
  rw [if_neg h0] at h
  by_cases h0 : n = 0xFF48; · rw [if_pos h0] at h; exact h0.trans (Option.some.inj h)
  rw [if_neg h0] at h
  by_cases h0 : n = 0xFF49; · rw [if_pos h0] at h; exact h0.trans (Option.some.inj h)
  rw [if_neg h0] at h
  by_cases h0 : n = 0xFF4A; · rw [if_pos h0] at h; exact h0.trans (Option.some.inj h)
  rw [if_neg h0] at h
  by_cases h0 : n = 0xFF4B; · rw [if_pos h0] at h; exact h0.trans (Option.some.inj h)
  rw [if_neg h0] at h
  by_cases h0 : n = 0xFF50; · rw [if_pos h0] at h; exact h0.trans (Option.some.inj h)
  rw [if_neg h0] at h
  cases h

/-- A register's region has one address. -/
theorem route_addr {a : Word} {k : Nat} (h : regionAddr (route a) = some k) : a.toNat = k := by
  have := a.isLt
  unfold route at h
  dsimp only at h
  by_cases h0 : a.toNat < 0x4000; · rw [if_pos h0] at h; cases h
  rw [if_neg h0] at h
  by_cases h0 : a.toNat < 0x8000; · rw [if_pos h0] at h; cases h
  rw [if_neg h0] at h
  by_cases h0 : a.toNat < 0x9800; · rw [if_pos h0] at h; cases h
  rw [if_neg h0] at h
  by_cases h0 : a.toNat < 0x9C00; · rw [if_pos h0] at h; cases h
  rw [if_neg h0] at h
  by_cases h0 : a.toNat < 0xA000; · rw [if_pos h0] at h; cases h
  rw [if_neg h0] at h
  by_cases h0 : a.toNat < 0xC000; · rw [if_pos h0] at h; cases h
  rw [if_neg h0] at h
  by_cases h0 : a.toNat < 0xE000; · rw [if_pos h0] at h; cases h
  rw [if_neg h0] at h
  by_cases h0 : a.toNat < 0xFE00; · rw [if_pos h0] at h; cases h
  rw [if_neg h0] at h
  by_cases h0 : a.toNat < 0xFEA0; · rw [if_pos h0] at h; cases h
  rw [if_neg h0] at h
  by_cases h0 : a.toNat < 0xFF00; · rw [if_pos h0] at h; cases h
  rw [if_neg h0] at h
  by_cases h0 : a.toNat < 0xFF80; · rw [if_pos h0] at h; exact routeIo_addr h
  rw [if_neg h0] at h
  by_cases h0 : a.toNat < 0xFFFF; · rw [if_pos h0] at h; cases h
  rw [if_neg h0] at h
  have h1 : 0xFFFF = k := Option.some.inj h
  omega

theorem route_romFixed {a : Word} (h : a.toNat < 0x4000) : route a = .romFixed := by
  unfold route; simp only; rw [if_pos h]

theorem route_romBanked {a : Word} (h : 0x4000 ≤ a.toNat) (h' : a.toNat < 0x8000) : route a = .romBanked := by
  unfold route; simp only; rw [if_neg (by omega), if_pos h']

theorem route_isMemory {a : Word} (h : 0x8000 ≤ a.toNat) (h' : a.toNat < 0xE000) : (route a).isMemory = true := by
  unfold route; simp only
  rw [if_neg (by omega), if_neg (by omega)]
  by_cases h1 : a.toNat < 0x9800; · rw [if_pos h1]; rfl
  rw [if_neg h1]
  by_cases h1 : a.toNat < 0x9C00; · rw [if_pos h1]; rfl
  rw [if_neg h1]
  by_cases h1 : a.toNat < 0xA000; · rw [if_pos h1]; rfl
  rw [if_neg h1]
  by_cases h1 : a.toNat < 0xC000; · rw [if_pos h1]; rfl
  rw [if_neg h1, if_pos h']; rfl

theorem route_unmapped {a : Word}
    (h : 0xE000 ≤ a.toNat ∧ a.toNat < 0xFE00 ∨ 0xFEA0 ≤ a.toNat ∧ a.toNat < 0xFF00) : route a = .unmapped := by
  unfold route; simp only
  iterate 7 rw [if_neg (by omega)]
  by_cases h1 : a.toNat < 0xFE00
  · rw [if_pos h1]
  · iterate 2 rw [if_neg (by omega)]
    rw [if_pos (by omega)]

theorem route_oam {a : Word} (h : 0xFE00 ≤ a.toNat) (h' : a.toNat < 0xFEA0) : route a = .oam := by
  unfold route
  simp only
  iterate 8 rw [if_neg (by omega)]
  rw [if_pos (by omega)]

/-- The I/O addresses that no register has are scratch (20_memory.md R112, R118). -/
theorem route_scratch {a : Word} (h : 0xFF01 ≤ a.toNat ∧ a.toNat < 0xFF04 ∨ 0xFF08 ≤ a.toNat ∧ a.toNat < 0xFF0F ∨
    0xFF10 ≤ a.toNat ∧ a.toNat < 0xFF40 ∨ 0xFF4C ≤ a.toNat ∧ a.toNat < 0xFF50 ∨ 0xFF51 ≤ a.toNat ∧ a.toNat < 0xFF80) :
    route a = .scratch := by
  unfold route; simp only
  iterate 10 rw [if_neg (by omega)]
  rw [if_pos (by omega)]
  unfold routeIo
  iterate 19 rw [if_neg (by omega)]

theorem route_hram {a : Word} (h : 0xFF80 ≤ a.toNat) (h' : a.toNat < 0xFFFF) : route a = .hram := by
  unfold route; simp only
  iterate 11 rw [if_neg (by omega)]
  rw [if_pos (by omega)]

/-- A read of plain memory. -/
theorem busRead_isMemory (s : State) {a : Word} (h : (route a).isMemory = true) :
    s.busRead a = Memory.read s.mem a.toNat := by
  simp only [State.busRead]
  cases hr : route a <;> rw [hr] at h <;> first | contradiction | rfl

/-- Two addresses of one register's region are the same address. -/
theorem route_unique {a b : Word} {r : Region} (ha : route a = r) (hb : route b = r)
    (h : (regionAddr r).isSome = true) : a = b := by
  obtain ⟨k, hk⟩ := Option.isSome_iff_exists.1 h
  have h1 : a.toNat = k := route_addr (by rw [ha, hk])
  have h2 : b.toNat = k := route_addr (by rw [hb, hk])
  exact BitVec.eq_of_toNat_eq (by omega)

/-! ### What a bus write leaves -/

theorem oamDma_only (s : State) (v : Byte) :
    ∃ m, s.oamDma v = { s with ppu := { s.ppu with dma := v }, mem := m } ∧ (Memory.wf s.mem = true → Memory.wf m = true) := by
  have h : ∀ (l : List Nat) (f : Nat → Nat) (g : State → Nat → Byte) (t : State),
      ∃ m, l.foldl (fun t i => t.memWrite (f i) (g t i)) t = { t with mem := m } ∧
        (Memory.wf t.mem = true → Memory.wf m = true) := by
    intro l f g
    induction l with
    | nil => intro t; exact ⟨t.mem, rfl, id⟩
    | cons i l ih =>
      intro t
      obtain ⟨m, hm, w⟩ := ih (t.memWrite (f i) (g t i))
      exact ⟨m, hm, fun ht => w (memory_wf_write _ _ ht)⟩
  exact h (List.range Config.oamSize) (fun i => 0xFE00 + i)
    (fun t i => t.busRead (BitVec.ofNat 16 (v.toNat * 0x100 + i))) { s with ppu := { s.ppu with dma := v } }

theorem lycCheck_only (s : State) :
    ∃ q, s.lycCheck = { s with
      ppu := { s.ppu with stat := setBit s.ppu.stat 2 (s.ppu.ly == s.ppu.lyc) }
      irq := { s.irq with ifReg := q } } := by
  simp only [State.lycCheck]
  split
  · exact ⟨_, rfl⟩
  · exact ⟨_, rfl⟩

theorem writeRomFixed_only (s : State) (a : Word) (v : Byte) :
    ∃ b, s.writeRomFixed a v = { s with cart := { s.cart with romBank := b } } := by
  simp only [State.writeRomFixed]
  split
  · exact ⟨_, rfl⟩
  · exact ⟨_, rfl⟩

theorem writeBootDisable_only (s : State) :
    ∃ m b, s.writeBootDisable = { s with cart := { s.cart with rom := m, disableBootrom := b } } := by
  simp only [State.writeBootDisable]
  split
  · exact ⟨_, _, rfl⟩
  · exact ⟨_, _, rfl⟩

/-- Everything a bus write can change: IF, DIV and its sub-counter, TIMA, TMA, TAC, IE, the PPU's registers, ROM and
the bank, the joypad select bits and memory. -/
theorem busWrite_only (s : State) (a : Word) (v : Byte) :
    let t := s.busWrite a v
    t = { s with
      irq := { s.irq with ifReg := t.irq.ifReg, ieReg := t.irq.ieReg }
      timer := { t.timer with timaSub := s.timer.timaSub }
      ppu := { t.ppu with mode := s.ppu.mode, dotsRemaining := s.ppu.dotsRemaining, vblankDots := s.ppu.vblankDots,
                          frameCount := s.ppu.frameCount, ly := s.ppu.ly }
      cart := { s.cart with rom := t.cart.rom, romBank := t.cart.romBank, disableBootrom := t.cart.disableBootrom }
      joypad := { s.joypad with p1Select := t.joypad.p1Select }
      mem := t.mem } := by
  simp only [State.busWrite]
  split
  case h_1 => obtain ⟨_, h⟩ := writeRomFixed_only s a v; rw [h]
  case h_23 => obtain ⟨_, h⟩ := lycCheck_only { s with ppu := { s.ppu with lyc := v } }; rw [h]
  case h_24 => obtain ⟨_, h, -⟩ := oamDma_only s v; rw [h]
  case h_30 => obtain ⟨_, _, h⟩ := writeBootDisable_only s; rw [h]
  all_goals rfl

section
variable (s : State) (a : Word) (v : Byte)

@[simp] theorem busWrite_cpu : (s.busWrite a v).cpu = s.cpu := by rw [busWrite_only]
@[simp] theorem busWrite_cycles : (s.busWrite a v).cycles = s.cycles := by rw [busWrite_only]
@[simp] theorem busWrite_cost : (s.busWrite a v).cost = s.cost := by rw [busWrite_only]
@[simp] theorem busWrite_frame : (s.busWrite a v).frame = s.frame := by rw [busWrite_only]
@[simp] theorem busWrite_presented : (s.busWrite a v).presented = s.presented := by rw [busWrite_only]
@[simp] theorem busWrite_hostInput : (s.busWrite a v).hostInput = s.hostInput := by rw [busWrite_only]
@[simp] theorem busWrite_ime : (s.busWrite a v).irq.ime = s.irq.ime := by rw [busWrite_only]
@[simp] theorem busWrite_eiPending : (s.busWrite a v).irq.eiPending = s.irq.eiPending := by rw [busWrite_only]
@[simp] theorem busWrite_halted : (s.busWrite a v).irq.halted = s.irq.halted := by rw [busWrite_only]
@[simp] theorem busWrite_timaSub : (s.busWrite a v).timer.timaSub = s.timer.timaSub := by rw [busWrite_only]
@[simp] theorem busWrite_mode : (s.busWrite a v).ppu.mode = s.ppu.mode := by rw [busWrite_only]
@[simp] theorem busWrite_dotsRemaining : (s.busWrite a v).ppu.dotsRemaining = s.ppu.dotsRemaining := by
  rw [busWrite_only]
@[simp] theorem busWrite_vblankDots : (s.busWrite a v).ppu.vblankDots = s.ppu.vblankDots := by rw [busWrite_only]
@[simp] theorem busWrite_frameCount : (s.busWrite a v).ppu.frameCount = s.ppu.frameCount := by rw [busWrite_only]
@[simp] theorem busWrite_ly : (s.busWrite a v).ppu.ly = s.ppu.ly := by rw [busWrite_only]
@[simp] theorem busWrite_cartType : (s.busWrite a v).cart.cartType = s.cart.cartType := by rw [busWrite_only]
@[simp] theorem busWrite_cartLow : (s.busWrite a v).cart.cartLow = s.cart.cartLow := by rw [busWrite_only]
@[simp] theorem busWrite_bootImage : (s.busWrite a v).cart.bootImage = s.cart.bootImage := by rw [busWrite_only]

/-- A bus write does not look at the CPU's registers. -/
theorem busWrite_withCpu (c : Cpu) :
    State.busWrite { s with cpu := c } a v = { s.busWrite a v with cpu := c } := by
  have hd : ∀ (l : List Nat) (f : Nat → Nat) (g : Nat → Word) (t : State),
      l.foldl (fun t i => t.memWrite (f i) (t.busRead (g i))) { t with cpu := c }
        = { l.foldl (fun t i => t.memWrite (f i) (t.busRead (g i))) t with cpu := c } := by
    intro l f g
    induction l with
    | nil => intro t; rfl
    | cons i l ih => intro t; exact ih (t.memWrite (f i) (t.busRead (g i)))
  simp only [State.busWrite]
  split
  case h_1 => simp only [State.writeRomFixed]; split <;> rfl
  case h_23 => simp only [State.lycCheck]; split <;> rfl
  case h_24 =>
    exact hd (List.range Config.oamSize) (fun i => 0xFE00 + i)
      (fun i => BitVec.ofNat 16 (v.toNat * 0x100 + i)) { s with ppu := { s.ppu with dma := v } }
  case h_30 => simp only [State.writeBootDisable]; split <;> rfl
  all_goals rfl

end

/-- What a read gives after a byte of plain memory has been stored at its bus address. -/
theorem busRead_memWrite (s : State) (n : Nat) (v : Byte) (b : Word) (h : b.toNat ≠ n) :
    (s.memWrite n v).busRead b = s.busRead b := by
  simp only [State.busRead]
  split <;> first | rfl | exact memory_read_write_other _ _ h

/-- A bus write keeps memory's canonical form. -/
theorem memory_wf_busWrite (s : State) (a : Word) (v : Byte) (w : Memory.wf s.mem = true) :
    Memory.wf (s.busWrite a v).mem = true := by
  simp only [State.busWrite]
  split
  case h_1 => obtain ⟨_, h⟩ := writeRomFixed_only s a v; rw [h]; exact w
  case h_23 => obtain ⟨_, h⟩ := lycCheck_only { s with ppu := { s.ppu with lyc := v } }; rw [h]; exact w
  case h_24 => obtain ⟨_, h, h'⟩ := oamDma_only s v; rw [h]; exact h' w
  case h_30 => obtain ⟨_, _, h⟩ := writeBootDisable_only s; rw [h]; exact w
  all_goals first
    | exact w
    | exact memory_wf_write _ _ w

end Sys2Proof.Laws
end

