-- ==== Sys2Proof/Laws/Cases.lean ====
section
/-! SUPPORT. A case split over all instructions by family, in the operand fields of the encoding, so that a statement
about every instruction is proved family by family and not constructor by constructor. -/

namespace Sys2Proof.Laws

/-- To show P of every instruction, show it of each family. -/
theorem instr_families {P : Instr → Prop}
    (ldR8R8 : ∀ d r : R8, d ≠ .atHl ∨ r ≠ .atHl → P (Instr.ldR8R8 d r))
    (ldR8N8 : ∀ (f : R8) (n : Byte), P (Instr.ldR8N8 f n))
    (incR8 : ∀ (f : R8), P (Instr.incR8 f))
    (decR8 : ∀ (f : R8), P (Instr.decR8 f))
    (aluR8 : ∀ (f : AluOp) (r : R8), P (Instr.aluR8 f r))
    (aluN8 : ∀ (f : AluOp) (n : Byte), P (Instr.aluN8 f n))
    (ldRrN16 : ∀ (f : RR) (n : Word), P (Instr.ldRrN16 f n))
    (addHlRr : ∀ (f : RR), P (Instr.addHlRr f))
    (incRr : ∀ (f : RR), P (Instr.incRr f))
    (decRr : ∀ (f : RR), P (Instr.decRr f))
    (ldIndA : ∀ (f : Ind), P (Instr.ldIndA f))
    (ldAInd : ∀ (f : Ind), P (Instr.ldAInd f))
    (push : ∀ (f : QQ), P (Instr.push f))
    (pop : ∀ (f : QQ), P (Instr.pop f))
    (jrCc : ∀ (f : CC) (e : Byte), P (Instr.jrCc f e))
    (jpCc : ∀ (f : CC) (a : Word), P (Instr.jpCc f a))
    (callCc : ∀ (f : CC) (a : Word), P (Instr.callCc f a))
    (retCc : ∀ (f : CC), P (Instr.retCc f))
    (rst : ∀ (y : Fin 8), P (Instr.rst y))
    (unassigned : ∀ (u : Unassigned), P (Instr.unassigned u))
    (shift : ∀ (f : ShiftOp) (r : R8), P (Instr.shift f r))
    (bit : ∀ (f : Fin 8) (r : R8), P (Instr.bit f r))
    (res : ∀ (f : Fin 8) (r : R8), P (Instr.res f r))
    (set : ∀ (f : Fin 8) (r : R8), P (Instr.set f r))
    (ldAtA16Sp : ∀ (a : Word), P (.ldAtA16Sp a))
    (stop : ∀ (n : Byte), P (.stop n))
    (jrE8 : ∀ (e : Byte), P (.jrE8 e))
    (jpA16 : ∀ (a : Word), P (.jpA16 a))
    (callA16 : ∀ (a : Word), P (.callA16 a))
    (ldhAtA8A : ∀ (n : Byte), P (.ldhAtA8A n))
    (addSpE8 : ∀ (e : Byte), P (.addSpE8 e))
    (ldAtA16A : ∀ (a : Word), P (.ldAtA16A a))
    (ldhAAtA8 : ∀ (n : Byte), P (.ldhAAtA8 n))
    (ldHlSpE8 : ∀ (e : Byte), P (.ldHlSpE8 e))
    (ldAAtA16 : ∀ (a : Word), P (.ldAAtA16 a))
    (nop : P .nop)
    (rlca : P .rlca)
    (rrca : P .rrca)
    (rla : P .rla)
    (rra : P .rra)
    (daa : P .daa)
    (cpl : P .cpl)
    (scf : P .scf)
    (ccf : P .ccf)
    (halt : P .halt)
    (ret : P .ret)
    (prefixCb : P .prefixCb)
    (reti : P .reti)
    (ldhAtCA : P .ldhAtCA)
    (jpHl : P .jpHl)
    (ldhAAtC : P .ldhAAtC)
    (di : P .di)
    (ldSpHl : P .ldSpHl)
    (ei : P .ei) :
    ∀ i : Instr, P i
  | .ldBcN16 n => ldRrN16 .bc n
  | .ldBN8 n => ldR8N8 .b n
  | .ldAtA16Sp a => ldAtA16Sp a
  | .ldCN8 n => ldR8N8 .c n
  | .stop n => stop n
  | .ldDeN16 n => ldRrN16 .de n
  | .ldDN8 n => ldR8N8 .d n
  | .jrE8 e => jrE8 e
  | .ldEN8 n => ldR8N8 .e n
  | .jrNzE8 e => jrCc .nz e
  | .ldHlN16 n => ldRrN16 .hl n
  | .ldHN8 n => ldR8N8 .h n
  | .jrZE8 e => jrCc .z e
  | .ldLN8 n => ldR8N8 .l n
  | .jrNcE8 e => jrCc .nc e
  | .ldSpN16 n => ldRrN16 .sp n
  | .ldAtHlN8 n => ldR8N8 .atHl n
  | .jrCE8 e => jrCc .c e
  | .ldAN8 n => ldR8N8 .a n
  | .jpNzA16 a => jpCc .nz a
  | .jpA16 a => jpA16 a
  | .callNzA16 a => callCc .nz a
  | .addAN8 n => aluN8 .add n
  | .jpZA16 a => jpCc .z a
  | .callZA16 a => callCc .z a
  | .callA16 a => callA16 a
  | .adcAN8 n => aluN8 .adc n
  | .jpNcA16 a => jpCc .nc a
  | .callNcA16 a => callCc .nc a
  | .subN8 n => aluN8 .sub n
  | .jpCA16 a => jpCc .c a
  | .callCA16 a => callCc .c a
  | .sbcAN8 n => aluN8 .sbc n
  | .ldhAtA8A n => ldhAtA8A n
  | .andN8 n => aluN8 .and n
  | .addSpE8 e => addSpE8 e
  | .ldAtA16A a => ldAtA16A a
  | .xorN8 n => aluN8 .xor n
  | .ldhAAtA8 n => ldhAAtA8 n
  | .orN8 n => aluN8 .or n
  | .ldHlSpE8 e => ldHlSpE8 e
  | .ldAAtA16 a => ldAAtA16 a
  | .cpN8 n => aluN8 .cp n
  | .nop => nop
  | .ldAtBcA => ldIndA .bc
  | .incBc => incRr .bc
  | .incB => incR8 .b
  | .decB => decR8 .b
  | .rlca => rlca
  | .addHlBc => addHlRr .bc
  | .ldAAtBc => ldAInd .bc
  | .decBc => decRr .bc
  | .incC => incR8 .c
  | .decC => decR8 .c
  | .rrca => rrca
  | .ldAtDeA => ldIndA .de
  | .incDe => incRr .de
  | .incD => incR8 .d
  | .decD => decR8 .d
  | .rla => rla
  | .addHlDe => addHlRr .de
  | .ldAAtDe => ldAInd .de
  | .decDe => decRr .de
  | .incE => incR8 .e
  | .decE => decR8 .e
  | .rra => rra
  | .ldAtHlIncA => ldIndA .hlInc
  | .incHl => incRr .hl
  | .incH => incR8 .h
  | .decH => decR8 .h
  | .daa => daa
  | .addHlHl => addHlRr .hl
  | .ldAAtHlInc => ldAInd .hlInc
  | .decHl => decRr .hl
  | .incL => incR8 .l
  | .decL => decR8 .l
  | .cpl => cpl
  | .ldAtHlDecA => ldIndA .hlDec
  | .incSp => incRr .sp
  | .incAtHl => incR8 .atHl
  | .decAtHl => decR8 .atHl
  | .scf => scf
  | .addHlSp => addHlRr .sp
  | .ldAAtHlDec => ldAInd .hlDec
  | .decSp => decRr .sp
  | .incA => incR8 .a
  | .decA => decR8 .a
  | .ccf => ccf
  | .ldBB => ldR8R8 .b .b (by decide)
  | .ldBC => ldR8R8 .b .c (by decide)
  | .ldBD => ldR8R8 .b .d (by decide)
  | .ldBE => ldR8R8 .b .e (by decide)
  | .ldBH => ldR8R8 .b .h (by decide)
  | .ldBL => ldR8R8 .b .l (by decide)
  | .ldBAtHl => ldR8R8 .b .atHl (by decide)
  | .ldBA => ldR8R8 .b .a (by decide)
  | .ldCB => ldR8R8 .c .b (by decide)
  | .ldCC => ldR8R8 .c .c (by decide)
  | .ldCD => ldR8R8 .c .d (by decide)
  | .ldCE => ldR8R8 .c .e (by decide)
  | .ldCH => ldR8R8 .c .h (by decide)
  | .ldCL => ldR8R8 .c .l (by decide)
  | .ldCAtHl => ldR8R8 .c .atHl (by decide)
  | .ldCA => ldR8R8 .c .a (by decide)
  | .ldDB => ldR8R8 .d .b (by decide)
  | .ldDC => ldR8R8 .d .c (by decide)
  | .ldDD => ldR8R8 .d .d (by decide)
  | .ldDE => ldR8R8 .d .e (by decide)
  | .ldDH => ldR8R8 .d .h (by decide)
  | .ldDL => ldR8R8 .d .l (by decide)
  | .ldDAtHl => ldR8R8 .d .atHl (by decide)
  | .ldDA => ldR8R8 .d .a (by decide)
  | .ldEB => ldR8R8 .e .b (by decide)
  | .ldEC => ldR8R8 .e .c (by decide)
  | .ldED => ldR8R8 .e .d (by decide)
  | .ldEE => ldR8R8 .e .e (by decide)
  | .ldEH => ldR8R8 .e .h (by decide)
  | .ldEL => ldR8R8 .e .l (by decide)
  | .ldEAtHl => ldR8R8 .e .atHl (by decide)
  | .ldEA => ldR8R8 .e .a (by decide)
  | .ldHB => ldR8R8 .h .b (by decide)
  | .ldHC => ldR8R8 .h .c (by decide)
  | .ldHD => ldR8R8 .h .d (by decide)
  | .ldHE => ldR8R8 .h .e (by decide)
  | .ldHH => ldR8R8 .h .h (by decide)
  | .ldHL => ldR8R8 .h .l (by decide)
  | .ldHAtHl => ldR8R8 .h .atHl (by decide)
  | .ldHA => ldR8R8 .h .a (by decide)
  | .ldLB => ldR8R8 .l .b (by decide)
  | .ldLC => ldR8R8 .l .c (by decide)
  | .ldLD => ldR8R8 .l .d (by decide)
  | .ldLE => ldR8R8 .l .e (by decide)
  | .ldLH => ldR8R8 .l .h (by decide)
  | .ldLL => ldR8R8 .l .l (by decide)
  | .ldLAtHl => ldR8R8 .l .atHl (by decide)
  | .ldLA => ldR8R8 .l .a (by decide)
  | .ldAtHlB => ldR8R8 .atHl .b (by decide)
  | .ldAtHlC => ldR8R8 .atHl .c (by decide)
  | .ldAtHlD => ldR8R8 .atHl .d (by decide)
  | .ldAtHlE => ldR8R8 .atHl .e (by decide)
  | .ldAtHlH => ldR8R8 .atHl .h (by decide)
  | .ldAtHlL => ldR8R8 .atHl .l (by decide)
  | .halt => halt
  | .ldAtHlA => ldR8R8 .atHl .a (by decide)
  | .ldAB => ldR8R8 .a .b (by decide)
  | .ldAC => ldR8R8 .a .c (by decide)
  | .ldAD => ldR8R8 .a .d (by decide)
  | .ldAE => ldR8R8 .a .e (by decide)
  | .ldAH => ldR8R8 .a .h (by decide)
  | .ldAL => ldR8R8 .a .l (by decide)
  | .ldAAtHl => ldR8R8 .a .atHl (by decide)
  | .ldAA => ldR8R8 .a .a (by decide)
  | .addAB => aluR8 .add .b
  | .addAC => aluR8 .add .c
  | .addAD => aluR8 .add .d
  | .addAE => aluR8 .add .e
  | .addAH => aluR8 .add .h
  | .addAL => aluR8 .add .l
  | .addAAtHl => aluR8 .add .atHl
  | .addAA => aluR8 .add .a
  | .adcAB => aluR8 .adc .b
  | .adcAC => aluR8 .adc .c
  | .adcAD => aluR8 .adc .d
  | .adcAE => aluR8 .adc .e
  | .adcAH => aluR8 .adc .h
  | .adcAL => aluR8 .adc .l
  | .adcAAtHl => aluR8 .adc .atHl
  | .adcAA => aluR8 .adc .a
  | .subB => aluR8 .sub .b
  | .subC => aluR8 .sub .c
  | .subD => aluR8 .sub .d
  | .subE => aluR8 .sub .e
  | .subH => aluR8 .sub .h
  | .subL => aluR8 .sub .l
  | .subAtHl => aluR8 .sub .atHl
  | .subA => aluR8 .sub .a
  | .sbcAB => aluR8 .sbc .b
  | .sbcAC => aluR8 .sbc .c
  | .sbcAD => aluR8 .sbc .d
  | .sbcAE => aluR8 .sbc .e
  | .sbcAH => aluR8 .sbc .h
  | .sbcAL => aluR8 .sbc .l
  | .sbcAAtHl => aluR8 .sbc .atHl
  | .sbcAA => aluR8 .sbc .a
  | .andB => aluR8 .and .b
  | .andC => aluR8 .and .c
  | .andD => aluR8 .and .d
  | .andE => aluR8 .and .e
  | .andH => aluR8 .and .h
  | .andL => aluR8 .and .l
  | .andAtHl => aluR8 .and .atHl
  | .andA => aluR8 .and .a
  | .xorB => aluR8 .xor .b
  | .xorC => aluR8 .xor .c
  | .xorD => aluR8 .xor .d
  | .xorE => aluR8 .xor .e
  | .xorH => aluR8 .xor .h
  | .xorL => aluR8 .xor .l
  | .xorAtHl => aluR8 .xor .atHl
  | .xorA => aluR8 .xor .a
  | .orB => aluR8 .or .b
  | .orC => aluR8 .or .c
  | .orD => aluR8 .or .d
  | .orE => aluR8 .or .e
  | .orH => aluR8 .or .h
  | .orL => aluR8 .or .l
  | .orAtHl => aluR8 .or .atHl
  | .orA => aluR8 .or .a
  | .cpB => aluR8 .cp .b
  | .cpC => aluR8 .cp .c
  | .cpD => aluR8 .cp .d
  | .cpE => aluR8 .cp .e
  | .cpH => aluR8 .cp .h
  | .cpL => aluR8 .cp .l
  | .cpAtHl => aluR8 .cp .atHl
  | .cpA => aluR8 .cp .a
  | .retNz => retCc .nz
  | .popBc => pop .bc
  | .pushBc => push .bc
  | .rst00 => rst 0
  | .retZ => retCc .z
  | .ret => ret
  | .prefixCb => prefixCb
  | .rst08 => rst 1
  | .retNc => retCc .nc
  | .popDe => pop .de
  | .unassignedD3 => unassigned .xD3
  | .pushDe => push .de
  | .rst10 => rst 2
  | .retC => retCc .c
  | .reti => reti
  | .unassignedDB => unassigned .xDB
  | .unassignedDD => unassigned .xDD
  | .rst18 => rst 3
  | .popHl => pop .hl
  | .ldhAtCA => ldhAtCA
  | .unassignedE3 => unassigned .xE3
  | .unassignedE4 => unassigned .xE4
  | .pushHl => push .hl
  | .rst20 => rst 4
  | .jpHl => jpHl
  | .unassignedEB => unassigned .xEB
  | .unassignedEC => unassigned .xEC
  | .unassignedED => unassigned .xED
  | .rst28 => rst 5
  | .popAf => pop .af
  | .ldhAAtC => ldhAAtC
  | .di => di
  | .unassignedF4 => unassigned .xF4
  | .pushAf => push .af
  | .rst30 => rst 6
  | .ldSpHl => ldSpHl
  | .ei => ei
  | .unassignedFC => unassigned .xFC
  | .unassignedFD => unassigned .xFD
  | .rst38 => rst 7
  | .rlcB => shift .rlc .b
  | .rlcC => shift .rlc .c
  | .rlcD => shift .rlc .d
  | .rlcE => shift .rlc .e
  | .rlcH => shift .rlc .h
  | .rlcL => shift .rlc .l
  | .rlcAtHl => shift .rlc .atHl
  | .rlcA => shift .rlc .a
  | .rrcB => shift .rrc .b
  | .rrcC => shift .rrc .c
  | .rrcD => shift .rrc .d
  | .rrcE => shift .rrc .e
  | .rrcH => shift .rrc .h
  | .rrcL => shift .rrc .l
  | .rrcAtHl => shift .rrc .atHl
  | .rrcA => shift .rrc .a
  | .rlB => shift .rl .b
  | .rlC => shift .rl .c
  | .rlD => shift .rl .d
  | .rlE => shift .rl .e
  | .rlH => shift .rl .h
  | .rlL => shift .rl .l
  | .rlAtHl => shift .rl .atHl
  | .rlA => shift .rl .a
  | .rrB => shift .rr .b
  | .rrC => shift .rr .c
  | .rrD => shift .rr .d
  | .rrE => shift .rr .e
  | .rrH => shift .rr .h
  | .rrL => shift .rr .l
  | .rrAtHl => shift .rr .atHl
  | .rrA => shift .rr .a
  | .slaB => shift .sla .b
  | .slaC => shift .sla .c
  | .slaD => shift .sla .d
  | .slaE => shift .sla .e
  | .slaH => shift .sla .h
  | .slaL => shift .sla .l
  | .slaAtHl => shift .sla .atHl
  | .slaA => shift .sla .a
  | .sraB => shift .sra .b
  | .sraC => shift .sra .c
  | .sraD => shift .sra .d
  | .sraE => shift .sra .e
  | .sraH => shift .sra .h
  | .sraL => shift .sra .l
  | .sraAtHl => shift .sra .atHl
  | .sraA => shift .sra .a
  | .swapB => shift .swap .b
  | .swapC => shift .swap .c
  | .swapD => shift .swap .d
  | .swapE => shift .swap .e
  | .swapH => shift .swap .h
  | .swapL => shift .swap .l
  | .swapAtHl => shift .swap .atHl
  | .swapA => shift .swap .a
  | .srlB => shift .srl .b
  | .srlC => shift .srl .c
  | .srlD => shift .srl .d
  | .srlE => shift .srl .e
  | .srlH => shift .srl .h
  | .srlL => shift .srl .l
  | .srlAtHl => shift .srl .atHl
  | .srlA => shift .srl .a
  | .bit0B => bit 0 .b
  | .bit0C => bit 0 .c
  | .bit0D => bit 0 .d
  | .bit0E => bit 0 .e
  | .bit0H => bit 0 .h
  | .bit0L => bit 0 .l
  | .bit0AtHl => bit 0 .atHl
  | .bit0A => bit 0 .a
  | .bit1B => bit 1 .b
  | .bit1C => bit 1 .c
  | .bit1D => bit 1 .d
  | .bit1E => bit 1 .e
  | .bit1H => bit 1 .h
  | .bit1L => bit 1 .l
  | .bit1AtHl => bit 1 .atHl
  | .bit1A => bit 1 .a
  | .bit2B => bit 2 .b
  | .bit2C => bit 2 .c
  | .bit2D => bit 2 .d
  | .bit2E => bit 2 .e
  | .bit2H => bit 2 .h
  | .bit2L => bit 2 .l
  | .bit2AtHl => bit 2 .atHl
  | .bit2A => bit 2 .a
  | .bit3B => bit 3 .b
  | .bit3C => bit 3 .c
  | .bit3D => bit 3 .d
  | .bit3E => bit 3 .e
  | .bit3H => bit 3 .h
  | .bit3L => bit 3 .l
  | .bit3AtHl => bit 3 .atHl
  | .bit3A => bit 3 .a
  | .bit4B => bit 4 .b
  | .bit4C => bit 4 .c
  | .bit4D => bit 4 .d
  | .bit4E => bit 4 .e
  | .bit4H => bit 4 .h
  | .bit4L => bit 4 .l
  | .bit4AtHl => bit 4 .atHl
  | .bit4A => bit 4 .a
  | .bit5B => bit 5 .b
  | .bit5C => bit 5 .c
  | .bit5D => bit 5 .d
  | .bit5E => bit 5 .e
  | .bit5H => bit 5 .h
  | .bit5L => bit 5 .l
  | .bit5AtHl => bit 5 .atHl
  | .bit5A => bit 5 .a
  | .bit6B => bit 6 .b
  | .bit6C => bit 6 .c
  | .bit6D => bit 6 .d
  | .bit6E => bit 6 .e
  | .bit6H => bit 6 .h
  | .bit6L => bit 6 .l
  | .bit6AtHl => bit 6 .atHl
  | .bit6A => bit 6 .a
  | .bit7B => bit 7 .b
  | .bit7C => bit 7 .c
  | .bit7D => bit 7 .d
  | .bit7E => bit 7 .e
  | .bit7H => bit 7 .h
  | .bit7L => bit 7 .l
  | .bit7AtHl => bit 7 .atHl
  | .bit7A => bit 7 .a
  | .res0B => res 0 .b
  | .res0C => res 0 .c
  | .res0D => res 0 .d
  | .res0E => res 0 .e
  | .res0H => res 0 .h
  | .res0L => res 0 .l
  | .res0AtHl => res 0 .atHl
  | .res0A => res 0 .a
  | .res1B => res 1 .b
  | .res1C => res 1 .c
  | .res1D => res 1 .d
  | .res1E => res 1 .e
  | .res1H => res 1 .h
  | .res1L => res 1 .l
  | .res1AtHl => res 1 .atHl
  | .res1A => res 1 .a
  | .res2B => res 2 .b
  | .res2C => res 2 .c
  | .res2D => res 2 .d
  | .res2E => res 2 .e
  | .res2H => res 2 .h
  | .res2L => res 2 .l
  | .res2AtHl => res 2 .atHl
  | .res2A => res 2 .a
  | .res3B => res 3 .b
  | .res3C => res 3 .c
  | .res3D => res 3 .d
  | .res3E => res 3 .e
  | .res3H => res 3 .h
  | .res3L => res 3 .l
  | .res3AtHl => res 3 .atHl
  | .res3A => res 3 .a
  | .res4B => res 4 .b
  | .res4C => res 4 .c
  | .res4D => res 4 .d
  | .res4E => res 4 .e
  | .res4H => res 4 .h
  | .res4L => res 4 .l
  | .res4AtHl => res 4 .atHl
  | .res4A => res 4 .a
  | .res5B => res 5 .b
  | .res5C => res 5 .c
  | .res5D => res 5 .d
  | .res5E => res 5 .e
  | .res5H => res 5 .h
  | .res5L => res 5 .l
  | .res5AtHl => res 5 .atHl
  | .res5A => res 5 .a
  | .res6B => res 6 .b
  | .res6C => res 6 .c
  | .res6D => res 6 .d
  | .res6E => res 6 .e
  | .res6H => res 6 .h
  | .res6L => res 6 .l
  | .res6AtHl => res 6 .atHl
  | .res6A => res 6 .a
  | .res7B => res 7 .b
  | .res7C => res 7 .c
  | .res7D => res 7 .d
  | .res7E => res 7 .e
  | .res7H => res 7 .h
  | .res7L => res 7 .l
  | .res7AtHl => res 7 .atHl
  | .res7A => res 7 .a
  | .set0B => set 0 .b
  | .set0C => set 0 .c
  | .set0D => set 0 .d
  | .set0E => set 0 .e
  | .set0H => set 0 .h
  | .set0L => set 0 .l
  | .set0AtHl => set 0 .atHl
  | .set0A => set 0 .a
  | .set1B => set 1 .b
  | .set1C => set 1 .c
  | .set1D => set 1 .d
  | .set1E => set 1 .e
  | .set1H => set 1 .h
  | .set1L => set 1 .l
  | .set1AtHl => set 1 .atHl
  | .set1A => set 1 .a
  | .set2B => set 2 .b
  | .set2C => set 2 .c
  | .set2D => set 2 .d
  | .set2E => set 2 .e
  | .set2H => set 2 .h
  | .set2L => set 2 .l
  | .set2AtHl => set 2 .atHl
  | .set2A => set 2 .a
  | .set3B => set 3 .b
  | .set3C => set 3 .c
  | .set3D => set 3 .d
  | .set3E => set 3 .e
  | .set3H => set 3 .h
  | .set3L => set 3 .l
  | .set3AtHl => set 3 .atHl
  | .set3A => set 3 .a
  | .set4B => set 4 .b
  | .set4C => set 4 .c
  | .set4D => set 4 .d
  | .set4E => set 4 .e
  | .set4H => set 4 .h
  | .set4L => set 4 .l
  | .set4AtHl => set 4 .atHl
  | .set4A => set 4 .a
  | .set5B => set 5 .b
  | .set5C => set 5 .c
  | .set5D => set 5 .d
  | .set5E => set 5 .e
  | .set5H => set 5 .h
  | .set5L => set 5 .l
  | .set5AtHl => set 5 .atHl
  | .set5A => set 5 .a
  | .set6B => set 6 .b
  | .set6C => set 6 .c
  | .set6D => set 6 .d
  | .set6E => set 6 .e
  | .set6H => set 6 .h
  | .set6L => set 6 .l
  | .set6AtHl => set 6 .atHl
  | .set6A => set 6 .a
  | .set7B => set 7 .b
  | .set7C => set 7 .c
  | .set7D => set 7 .d
  | .set7E => set 7 .e
  | .set7H => set 7 .h
  | .set7L => set 7 .l
  | .set7AtHl => set 7 .atHl
  | .set7A => set 7 .a

end Sys2Proof.Laws
end

