-- ==== Sys2Proof/Laws/Exec.lean ====
section
/-! SUPPORT. `exec` of an instruction named by its operand fields is the shared operation on those fields: one lemma for
each family, so that no proof has to take a family's constructors one by one. -/

namespace Sys2Proof.Laws

open Sys2Proof.Machine Sys2Proof.Bits

theorem exec_ldR8R8 (d r : R8) (s : State) (h : d ≠ .atHl ∨ r ≠ .atHl) :
    exec (Instr.ldR8R8 d r) s = loadR8R8 d r (if d = .atHl ∨ r = .atHl then 2 else 1) s := by
  cases d <;> cases r <;> first | rfl | exact absurd h (by decide)

theorem exec_ldR8N8 (d : R8) (n : Byte) (s : State) :
    exec (Instr.ldR8N8 d n) s = loadR8Imm d n (costOf d 2 3) s := by cases d <;> rfl

theorem exec_ldAInd (m : Ind) (s : State) : exec (Instr.ldAInd m) s = loadAInd m s := by cases m <;> rfl

theorem exec_ldIndA (m : Ind) (s : State) : exec (Instr.ldIndA m) s = storeAInd m s := by cases m <;> rfl

theorem exec_ldRrN16 (r : RR) (v : Word) (s : State) : exec (Instr.ldRrN16 r v) s = loadRRImm r v s := by
  cases r <;> rfl

theorem exec_push (q : QQ) (s : State) : exec (Instr.push q) s = pushQQ q s := by cases q <;> rfl

theorem exec_pop (q : QQ) (s : State) : exec (Instr.pop q) s = popQQ q s := by cases q <;> rfl

theorem exec_aluR8 (op : AluOp) (r : R8) (s : State) : exec (Instr.aluR8 op r) s = Machine.aluR8 op r s := by
  cases op <;> cases r <;> rfl

theorem exec_aluN8 (op : AluOp) (n : Byte) (s : State) : exec (Instr.aluN8 op n) s = aluImm op n s := by
  cases op <;> rfl

theorem exec_incR8 (r : R8) (s : State) : exec (Instr.incR8 r) s = Machine.incR8 r s := by cases r <;> rfl

theorem exec_decR8 (r : R8) (s : State) : exec (Instr.decR8 r) s = Machine.decR8 r s := by cases r <;> rfl

theorem exec_addHlRr (r : RR) (s : State) : exec (Instr.addHlRr r) s = addHlRR r s := by cases r <;> rfl

theorem exec_incRr (r : RR) (s : State) : exec (Instr.incRr r) s = incRR r s := by cases r <;> rfl

theorem exec_decRr (r : RR) (s : State) : exec (Instr.decRr r) s = decRR r s := by cases r <;> rfl

theorem exec_shift (op : ShiftOp) (r : R8) (s : State) : exec (Instr.shift op r) s = shiftR8 op r s := by
  cases op <;> cases r <;> rfl

/-- A case split on a bit number, with the number a numeral in each case. -/
theorem forall_bit {p : Fin 8 → Prop} (h : p 0 ∧ p 1 ∧ p 2 ∧ p 3 ∧ p 4 ∧ p 5 ∧ p 6 ∧ p 7) (b : Fin 8) : p b := by
  obtain ⟨h0, h1, h2, h3, h4, h5, h6, h7⟩ := h
  match b with
  | 0 => exact h0
  | 1 => exact h1
  | 2 => exact h2
  | 3 => exact h3
  | 4 => exact h4
  | 5 => exact h5
  | 6 => exact h6
  | 7 => exact h7

theorem exec_bit (b : Fin 8) (r : R8) (s : State) : exec (Instr.bit b r) s = bitR8 b r s := by
  revert b
  apply forall_bit
  cases r <;> exact ⟨rfl, rfl, rfl, rfl, rfl, rfl, rfl, rfl⟩

theorem exec_res (b : Fin 8) (r : R8) (s : State) : exec (Instr.res b r) s = resR8 b r s := by
  revert b
  apply forall_bit
  cases r <;> exact ⟨rfl, rfl, rfl, rfl, rfl, rfl, rfl, rfl⟩

theorem exec_set (b : Fin 8) (r : R8) (s : State) : exec (Instr.set b r) s = setR8 b r s := by
  revert b
  apply forall_bit
  cases r <;> exact ⟨rfl, rfl, rfl, rfl, rfl, rfl, rfl, rfl⟩

theorem exec_jpCc (cc : CC) (a : Word) (s : State) : exec (Instr.jpCc cc a) s = jumpIf cc a 4 3 s := by
  cases cc <;> rfl

theorem exec_jrCc (cc : CC) (e : Byte) (s : State) :
    exec (Instr.jrCc cc e) s = jumpIf cc (s.relTarget e) 3 2 s := by cases cc <;> rfl

theorem exec_callCc (cc : CC) (a : Word) (s : State) : exec (Instr.callCc cc a) s = callIf cc a s := by
  cases cc <;> rfl

theorem exec_retCc (cc : CC) (s : State) : exec (Instr.retCc cc) s = retIf cc s := by cases cc <;> rfl

theorem exec_rst (y : Fin 8) (s : State) :
    exec (Instr.rst y) s = callTo (BitVec.ofNat 16 (8 * y.val)) 4 s := by
  revert y
  apply forall_bit
  exact ⟨rfl, rfl, rfl, rfl, rfl, rfl, rfl, rfl⟩

theorem exec_unassigned (u : Unassigned) (s : State) : exec (Instr.unassigned u) s = finish s 1 := by
  cases u <;> rfl

/-- The extended instruction of a byte runs by the byte's fields. -/
theorem exec_decodeExtended (op2 : Byte) (s : State) : exec (decodeExtended op2) s = executeExtended op2 s := by
  simp only [decodeExtended, executeExtended]
  generalize fieldX op2 = x
  match x with
  | 0 => exact exec_shift _ _ s
  | 1 => exact exec_bit _ _ s
  | 2 => exact exec_res _ _ s
  | 3 => exact exec_set _ _ s

end Sys2Proof.Laws
end

