-- ==== Sys2Proof/Laws/Flags.lean ====
section
/-! SUPPORT. What each flag and result function of Machine/Flags.lean gives, in whole numbers, so that no proof has to
unfold one. -/

namespace Sys2Proof.Laws

open Sys2Proof.Machine Sys2Proof.Bits

theorem beq_zero_eq (x : Byte) : (x == 0) = decide (x.toNat = 0) := by
  rw [Bool.eq_iff_iff, beq_iff_eq, decide_eq_true_eq]
  exact ⟨fun h => by rw [h]; rfl, fun h => BitVec.eq_of_toNat_eq h⟩

theorem low_nibble_toNat (v : Byte) : (v &&& 0x0F).toNat = v.toNat % 16 := by
  rw [BitVec.toNat_and]; exact Nat.and_two_pow_sub_one_eq_mod v.toNat 4

/-! ### add8 and sub8 -/

theorem add8_r (a b : Byte) (c : Bool) : (add8 a b c).r.toNat = (a.toNat + b.toNat + c.toNat) % 256 := by
  simp [add8]

theorem add8_z (a b : Byte) (c : Bool) :
    (add8 a b c).z = decide ((a.toNat + b.toNat + c.toNat) % 256 = 0) := by
  have := add8_r a b c
  show ((add8 a b c).r == 0) = _
  rw [beq_zero_eq, this]

theorem add8_h (a b : Byte) (c : Bool) :
    (add8 a b c).h = decide (a.toNat % 16 + b.toNat % 16 + c.toNat > 15) := by
  have e : BitVec.ofNat 8 (a.toNat + b.toNat + c.toNat) = a + b + BitVec.setWidth 8 (BitVec.ofBool c) := by
    apply BitVec.eq_of_toNat_eq
    cases c <;> simp
  simp only [add8, e, BitVec.getLsbD_xor]
  rw [BitVec.getLsbD_add_add_bool (by omega)]
  simp only [BitVec.carry]
  cases a.getLsbD 4 <;> cases b.getLsbD 4 <;> simp <;> omega

theorem add8_c (a b : Byte) (c : Bool) : (add8 a b c).c = decide (a.toNat + b.toNat + c.toNat > 255) := rfl

theorem sub8_r (a b : Byte) (c : Bool) :
    ((sub8 a b c).r.toNat : Int) = ((a.toNat : Int) - b.toNat - c.toNat) % 256 := by
  simp only [sub8, BitVec.toNat_ofInt]; omega

theorem sub8_z (a b : Byte) (c : Bool) :
    (sub8 a b c).z = decide (((a.toNat : Int) - b.toNat - c.toNat) % 256 = 0) := by
  have := sub8_r a b c
  show ((sub8 a b c).r == 0) = _
  rw [beq_zero_eq, decide_eq_decide]; omega

theorem sub8_h (a b : Byte) (c : Bool) :
    (sub8 a b c).h = decide (a.toNat % 16 < b.toNat % 16 + c.toNat) := by
  have e : BitVec.ofInt 8 (a.toNat - b.toNat - c.toNat) = a + ~~~b + BitVec.setWidth 8 (BitVec.ofBool !c) := by
    apply BitVec.eq_of_toNat_eq
    have := a.isLt; have := b.isLt
    rw [BitVec.toNat_ofInt, BitVec.toNat_add, BitVec.toNat_add, BitVec.toNat_not]
    cases c <;> simp <;> omega
  simp only [sub8, e, BitVec.getLsbD_xor]
  rw [BitVec.getLsbD_add_add_bool (by omega)]
  simp only [BitVec.getLsbD_not, show (4 < 8) = True by simp, decide_true, Bool.true_and]
  have key : ∀ x y z : Bool, (x ^^ y ^^ (x ^^ ((!y) ^^ z))) = !z := by decide
  rw [key, Bool.eq_iff_iff]
  simp only [BitVec.carry, BitVec.toNat_not, Bool.not_eq_true', decide_eq_false_iff_not, decide_eq_true_eq]
  have := a.isLt; have := b.isLt
  cases c
  · simp only [Bool.toNat_false, Bool.not_false, Bool.toNat_true]; omega
  · simp only [Bool.toNat_false, Bool.not_true, Bool.toNat_true]; omega

theorem sub8_c (a b : Byte) (c : Bool) : (sub8 a b c).c = decide (a.toNat < b.toNat + c.toNat) := by
  simp only [sub8]; rw [decide_eq_decide]; omega

/-! ### inc8, dec8 and daa -/

theorem inc8_r (v : Byte) (c : Bool) : (inc8 v c).r.toNat = (v.toNat + 1) % 256 := by
  simp [inc8, BitVec.toNat_add]

theorem inc8_z (v : Byte) (c : Bool) : (inc8 v c).z = decide (v.toNat = 255) := by
  show ((inc8 v c).r == 0) = _
  rw [beq_zero_eq, inc8_r, decide_eq_decide]; have := v.isLt; omega

theorem inc8_h (v : Byte) (c : Bool) : (inc8 v c).h = decide (v.toNat % 16 = 15) := by
  simp only [inc8]
  rw [Bool.eq_iff_iff, beq_iff_eq, decide_eq_true_eq, ← low_nibble_toNat]
  exact ⟨fun h => by rw [h]; rfl, fun h => BitVec.eq_of_toNat_eq h⟩

theorem dec8_r (v : Byte) (c : Bool) : (dec8 v c).r.toNat = (v.toNat + 255) % 256 := by
  simp only [dec8, BitVec.toNat_sub]; have := v.isLt; simp; omega

theorem dec8_z (v : Byte) (c : Bool) : (dec8 v c).z = decide (v.toNat = 1) := by
  show ((dec8 v c).r == 0) = _
  rw [beq_zero_eq, dec8_r, decide_eq_decide]; have := v.isLt; omega

theorem dec8_h (v : Byte) (c : Bool) : (dec8 v c).h = decide (v.toNat % 16 = 0) := by
  simp only [dec8]
  rw [Bool.eq_iff_iff, beq_iff_eq, decide_eq_true_eq, ← low_nibble_toNat]
  exact ⟨fun h => by rw [h]; rfl, fun h => BitVec.eq_of_toNat_eq h⟩

theorem daa_z (a : Byte) (n h c : Bool) : (daa a n h c).z = ((daa a n h c).r == 0) := by
  simp only [daa]; split <;> rfl

theorem daa_h (a : Byte) (n h c : Bool) : (daa a n h c).h = false := by simp only [daa]; split <;> rfl

theorem daa_c (a : Byte) (n h c : Bool) :
    (daa a n h c).c = decide (c = true ∨ (n = false ∧ a.toNat > 0x99)) := by
  simp only [daa]
  cases n <;> cases c <;> simp

/-! ### The 16-bit adds -/

theorem addHl16_r (a b : Word) : (addHl16 a b).1.toNat = (a.toNat + b.toNat) % 65536 := by simp [addHl16]

theorem addHl16_h (a b : Word) : (addHl16 a b).2.1 = decide (a.toNat % 4096 + b.toNat % 4096 > 4095) := by
  have e : BitVec.ofNat 16 (a.toNat + b.toNat) = a + b + BitVec.setWidth 16 (BitVec.ofBool false) := by
    apply BitVec.eq_of_toNat_eq; simp
  simp only [addHl16, e, BitVec.getLsbD_xor]
  rw [BitVec.getLsbD_add_add_bool (by omega)]
  simp only [BitVec.carry]
  cases a.getLsbD 12 <;> cases b.getLsbD 12 <;> simp <;> omega

theorem add_sext16_toNat (w : Word) (e : Byte) :
    ((w + sext16 e).toNat : Int) = ((w.toNat : Int) + e.toInt) % 65536 := by
  have h : (sext16 e).toInt = e.toInt := BitVec.toInt_signExtend_of_le (by omega)
  rw [BitVec.toNat_add]
  have h3 : (((sext16 e).toNat : Int)) % 65536 = e.toInt % 65536 := by
    rw [← h, BitVec.toInt_eq_toNat_cond]; split <;> omega
  have h4 : (((w.toNat + (sext16 e).toNat) % 2 ^ 16 : Nat) : Int) = ((w.toNat : Int) + (sext16 e).toNat) % 65536 := by
    omega
  rw [h4]
  omega

/-! ### Rotates, shifts and single bits -/

theorem shiftFun_spec : ∀ (op : ShiftOp) (c : Bool) (v : Byte),
    (shiftFun op v c).1.toNat = shiftValue op v.toNat c.toNat ∧ (shiftFun op v c).2 = shiftOut op v.toNat := by
  intro op; cases op <;> decide +kernel

theorem getLsbD_clearBit (v : Byte) (b : Fin 8) :
    ∀ j < 8, (v &&& ~~~(1#8 <<< b.val)).getLsbD j = if j = b.val then false else v.getLsbD j := by
  intro j hj
  simp only [BitVec.getLsbD_and, BitVec.getLsbD_not, BitVec.getLsbD_shiftLeft, BitVec.getLsbD_one]
  by_cases h : j = b.val
  · simp [h]
  · have : ¬ (j - b.val = 0 ∧ ¬ j < b.val) := by omega
    simp [h, hj]; intro; omega

theorem getLsbD_setBit (v : Byte) (b : Fin 8) :
    ∀ j < 8, (v ||| (1#8 <<< b.val)).getLsbD j = if j = b.val then true else v.getLsbD j := by
  intro j hj
  simp only [BitVec.getLsbD_or, BitVec.getLsbD_shiftLeft, BitVec.getLsbD_one]
  by_cases h : j = b.val
  · simp [h]
  · simp [h, hj]; intro; omega

end Sys2Proof.Laws
end

