-- ==== Sys2Proof/Laws/Frames.lean ====
section
/-! SUPPORT. What a bus write leaves readable, and the frames of Safety.lean for the shapes that the shared operations
of Machine/Operands.lean end in. -/

namespace Sys2Proof.Laws

open Sys2Proof.Machine Sys2Proof.Bits

/-! ### Reading after a bus write -/

theorem overlayLow_read_other (m low : List Host.Cell) (k : Nat) (h : 256 ≤ k) :
    Memory.read (overlayLow m low) k = Memory.read m k := by
  have : ∀ (l : List Nat) (m : List Host.Cell), (∀ i ∈ l, i ≠ k) →
      Memory.read (l.foldl (fun r i => Memory.write r i (Memory.read low i)) m) k = Memory.read m k := by
    intro l
    induction l with
    | nil => intros; rfl
    | cons i l ih =>
      intro m hl
      rw [List.foldl_cons, ih _ (fun j hj => hl j (List.mem_cons_of_mem _ hj))]
      exact memory_read_write_other _ _ (Ne.symm (hl i List.mem_cons_self))
  apply this
  intro i hi
  have := List.mem_range.1 hi
  simp only [Config.bootRomSize] at this
  omega

/-- The overlay: the first 256 bytes from the other memory, the rest as before, in canonical form (20_memory.md R130,
R131). -/
theorem overlayLow_spec (m low : List Host.Cell) (w : Memory.wf m = true) :
    Memory.wf (overlayLow m low) = true ∧
    ∀ k, Memory.read (overlayLow m low) k = if k < 256 then Memory.read low k else Memory.read m k := by
  have h : ∀ n, Memory.wf ((List.range n).foldl (fun r i => Memory.write r i (Memory.read low i)) m) = true ∧
      ∀ k, Memory.read ((List.range n).foldl (fun r i => Memory.write r i (Memory.read low i)) m) k =
        if k < n then Memory.read low k else Memory.read m k := by
    intro n
    induction n with
    | zero => exact ⟨w, fun k => by simp⟩
    | succ n ih =>
      obtain ⟨h1, h2⟩ := ih
      rw [List.range_succ, List.foldl_append]
      generalize (List.range n).foldl (fun r i => Memory.write r i (Memory.read low i)) m = t at h1 h2 ⊢
      refine ⟨memory_wf_write _ _ h1, fun k => ?_⟩
      simp only [List.foldl_cons, List.foldl_nil]
      by_cases he : k = n
      · subst he
        rw [if_pos (by omega)]
        exact memory_read_write_same _ _ h1
      · rw [memory_read_write_other _ _ he, h2]
        by_cases hk : k < n
        · rw [if_pos hk, if_pos (by omega)]
        · rw [if_neg hk, if_neg (by omega)]
  exact h Config.bootRomSize

/-- A read where the two states differ in memory only, and agree there. -/
theorem busRead_mem_congr {s t : State} {b : Word} (h : t = { s with mem := t.mem })
    (hm : Memory.read t.mem b.toNat = Memory.read s.mem b.toNat) : t.busRead b = s.busRead b := by
  rw [h]
  simp only [State.busRead]
  split <;> first | rfl | exact hm

/-- The first n bytes of the OAM transfer (60_exceptions.md R525): the source is never a byte already written. -/
theorem oamDma_fold (v : Byte) (d : State) (n : Nat) (hn : n ≤ 160) :
    let t := (List.range n).foldl
      (fun t i => t.memWrite (0xFE00 + i) (t.busRead (BitVec.ofNat 16 (v.toNat * 0x100 + i)))) d
    t = { d with mem := t.mem } ∧ (Memory.wf d.mem = true → Memory.wf t.mem = true) ∧
    (Memory.wf d.mem = true →
      ∀ i < n, Memory.read t.mem (0xFE00 + i) = d.busRead (BitVec.ofNat 16 (v.toNat * 0x100 + i))) ∧
    (∀ k, k < 0xFE00 ∨ 0xFE00 + n ≤ k → Memory.read t.mem k = Memory.read d.mem k) := by
  induction n with
  | zero => exact ⟨rfl, id, fun _ i hi => absurd hi (by omega), fun _ _ => rfl⟩
  | succ n ih =>
    obtain ⟨h1, h2, h3, h4⟩ := ih (by omega)
    rw [List.range_succ, List.foldl_append]
    generalize (List.range n).foldl (fun t i =>
      State.memWrite t (0xFE00 + i) (t.busRead (BitVec.ofNat 16 (v.toNat * 0x100 + i)))) d = t at h1 h2 h3 h4 ⊢
    simp only [List.foldl_cons, List.foldl_nil]
    have hsrc : t.busRead (BitVec.ofNat 16 (v.toNat * 0x100 + n)) =
        d.busRead (BitVec.ofNat 16 (v.toNat * 0x100 + n)) := by
      apply busRead_mem_congr h1
      apply h4
      have := v.isLt
      simp only [BitVec.toNat_ofNat]
      by_cases hv : v.toNat = 254
      · right; omega
      · omega
    refine ⟨?_, fun w => memory_wf_write _ _ (h2 w), ?_, ?_⟩
    · simp only [State.memWrite]; rw [h1]
    · intro w i hi
      by_cases he : i = n
      · subst he
        rw [← hsrc]
        exact memory_read_write_same _ _ (h2 w)
      · rw [← h3 w i (by omega)]
        exact memory_read_write_other _ _ (by omega)
    · intro k hk
      rw [← h4 k (by omega)]
      exact memory_read_write_other _ _ (by omega)

theorem oamDma_read_other (s : State) (v : Byte) (b : Word) (h : b.toNat < 0xFE00 ∨ 0xFEA0 ≤ b.toNat) :
    (s.oamDma v).busRead b = State.busRead { s with ppu := { s.ppu with dma := v } } b := by
  have : ∀ (l : List Nat) (g : State → Nat → Byte) (t : State), (∀ i ∈ l, i < 160) →
      (l.foldl (fun t i => t.memWrite (0xFE00 + i) (g t i)) t).busRead b = t.busRead b := by
    intro l g
    induction l with
    | nil => intros; rfl
    | cons i l ih =>
      intro t hl
      rw [List.foldl_cons, ih _ (fun j hj => hl j (List.mem_cons_of_mem _ hj))]
      have := hl i List.mem_cons_self
      exact busRead_memWrite _ _ _ _ (by omega)
  apply this (List.range 160) (fun t i => t.busRead (BitVec.ofNat 16 (v.toNat * 0x100 + i)))
  intro i hi
  exact List.mem_range.1 hi

/-- A bus write to plain memory is read back, in a canonical memory. -/
theorem busWrite_read_same (s : State) (a : Word) (v : Byte) (w : Memory.wf s.mem = true)
    (h : (route a).isMemory = true) : (s.busWrite a v).busRead a = v := by
  have h1 : s.busWrite a v = s.memWrite a.toNat v := by
    simp only [State.busWrite]
    cases hr : route a <;> simp_all [Region.isMemory]
  rw [h1]
  simp only [State.busRead]
  cases hr : route a <;> simp_all [Region.isMemory] <;>
  exact storeRead_write_same_from _ _ w

/-- A bus write leaves every byte that it does not reach (20_memory.md R113, R119). -/
theorem busWrite_read_other (s : State) (a b : Word) (v : Byte) (h : s.reaches a b = false) :
    (s.busWrite a v).busRead b = s.busRead b := by
  simp only [State.reaches, Bool.or_eq_false_iff, beq_eq_false_iff_ne, ne_eq] at h
  obtain ⟨hne, h⟩ := h
  have hn : b.toNat ≠ a.toNat := fun e => hne (BitVec.eq_of_toNat_eq e)
  have huniq : ∀ r, route a = r → (regionAddr r).isSome = true → route b ≠ r := fun r ha hs hb =>
    hne (route_unique hb ha hs)
  simp only [State.busWrite]
  cases hr : route a
  case romFixed =>
    simp only [State.writeRomFixed]
    split
    · rename_i hm
      simp only [hr, hm, Bool.true_and, beq_eq_false_iff_ne, ne_eq] at h
      simp only [State.busRead]
      split <;> first | contradiction | rfl
    · rfl
  case romBanked => rfl
  case unmapped => rfl
  case ly => rfl
  case tileData => exact busRead_memWrite _ _ _ _ hn
  case tileMap1 => exact busRead_memWrite _ _ _ _ hn
  case tileMap2 => exact busRead_memWrite _ _ _ _ hn
  case cartRam => exact busRead_memWrite _ _ _ _ hn
  case wram => exact busRead_memWrite _ _ _ _ hn
  case oam => exact busRead_memWrite _ _ _ _ hn
  case scratch => exact busRead_memWrite _ _ _ _ hn
  case hram => exact busRead_memWrite _ _ _ _ hn
  case lyc =>
    simp only [hr, Bool.or_eq_false_iff, beq_eq_false_iff_ne, ne_eq] at h
    have := huniq _ hr rfl
    obtain ⟨q, hq⟩ := lycCheck_only { s with ppu := { s.ppu with lyc := v } }
    simp only
    rw [hq]
    simp only [State.busRead]
    split <;> first | rfl | (exfalso; simp_all)
  case dma =>
    simp only [hr, beq_eq_false_iff_ne, ne_eq] at h
    have := huniq _ hr rfl
    have hb : b.toNat < 0xFE00 ∨ 0xFEA0 ≤ b.toNat := by
      by_cases h1 : b.toNat < 0xFE00
      · exact .inl h1
      · exact .inr (Nat.le_of_not_lt fun h2 => h (route_oam (by omega) h2))
    simp only
    rw [oamDma_read_other s v b hb]
    simp only [State.busRead]
    split <;> first | contradiction | rfl
  case bootDisable =>
    simp only [hr] at h
    simp only [State.writeBootDisable]
    split
    · rfl
    · rename_i hd
      rw [Bool.not_eq_true] at hd
      simp only [State.busRead]
      cases hb : route b
      case romFixed =>
        simp only [hb, hd, Bool.not_false, Bool.true_and, decide_eq_false_iff_not] at h
        exact overlayLow_read_other _ _ _ (by omega)
      case romBanked =>
        simp only [hb, hd, Bool.not_false, Bool.true_and, decide_eq_false_iff_not] at h
        have := overlayLow_read_other s.cart.rom s.cart.cartLow (s.cart.bankOffset b) (by omega)
        simp only [Cart.bankOffset] at this ⊢
        exact this
      all_goals rfl
  all_goals
    have := huniq _ hr rfl
    simp only [State.busRead]
    split <;> first | contradiction | rfl

/-- A write of the first byte of a pair changes nothing that the second byte's write reaches. -/
theorem reaches_busWrite (s : State) (a a' : Word) (v : Byte) (h : a' = a + 1 ∨ a' = a - 1) (b : Word) :
    (s.busWrite a v).reaches a' b = s.reaches a' b := by
  simp only [State.reaches]
  cases hr : route a'
  case romFixed => simp [Cart.isMbc1]
  case bootDisable =>
    have h1 := route_addr (show regionAddr (route a') = some 0xFF50 by rw [hr]; rfl)
    have h2 : a = 0xFF4F ∨ a = 0xFF51 := by
      rcases h with h | h <;> subst h
      · left; apply BitVec.eq_of_toNat_eq; simp at h1 ⊢; omega
      · right
        apply BitVec.eq_of_toNat_eq
        rw [BitVec.toNat_sub] at h1
        have : (1#16).toNat = 1 := rfl
        have := a.isLt
        simp at h1 ⊢; omega
    rcases h2 with h2 | h2 <;> subst h2 <;> rfl
  all_goals rfl

/-! ### Frames -/

theorem onlyStore_of_eq {s t : State} {a : Word} {v : Byte}
    (h : t = { s.busWrite a v with cpu := t.cpu, cost := t.cost }) : OnlyStore s t a v := by
  rw [h]
  exact ⟨rfl, fun b h => busWrite_read_other s a b v h, fun w h => busWrite_read_same s a v w h⟩

theorem onlyStores_of_eq {s t : State} {a a' : Word} {v v' : Byte} (hd : a' = a + 1 ∨ a' = a - 1)
    (h : t = { (s.busWrite a v).busWrite a' v' with cpu := t.cpu, cost := t.cost }) :
    OnlyStores s t a v a' v' := by
  have hb : ∀ b, t.busRead b = ((s.busWrite a v).busWrite a' v').busRead b := fun b => by rw [h]; rfl
  refine ⟨h, ?_, ?_, ?_⟩
  · intro b h1 h2
    rw [hb, busWrite_read_other _ _ _ _ (by rw [reaches_busWrite _ _ _ _ hd]; exact h2), busWrite_read_other _ _ _ _ h1]
  · intro w hm h2
    rw [hb, busWrite_read_other _ _ _ _ (by rw [reaches_busWrite _ _ _ _ hd]; exact h2), busWrite_read_same _ _ _ w hm]
  · intro w hm
    rw [hb, busWrite_read_same _ _ _ (memory_wf_busWrite _ _ _ w) hm]

theorem onlyR8_writeR8 (s : State) (d : R8) (v : Byte) (h : d ≠ .atHl) (k : Nat) :
    OnlyR8 s ((s.writeR8 d v).withCost k) [d] := by
  cases d <;> first
    | contradiction
    | exact ⟨by intro r h1 h2; cases r <;> first | rfl | contradiction, rfl, rfl, rfl, rfl, fun b => rfl⟩

theorem readR8_writeR8 (s : State) (d : R8) (v : Byte) (h : d ≠ .atHl) : (s.writeR8 d v).readR8 d = v := by
  cases d <;> first | contradiction | rfl

theorem onlyR8F_writeR8 (s : State) (d : R8) (v : Byte) (hd : d ≠ .atHl) (z n h c : Bool) (k : Nat) :
    OnlyR8F s (((s.writeR8 d v).setFlags z n h c).withCost k) [d] := by
  cases d <;> first
    | contradiction
    | exact ⟨by intro r h1 h2; cases r <;> first | rfl | contradiction, rfl, rfl, rfl, fun b => rfl⟩

theorem readR8_writeR8_setFlags (s : State) (d : R8) (v : Byte) (hd : d ≠ .atHl) (z n h c : Bool) (k : Nat) :
    (((s.writeR8 d v).setFlags z n h c).withCost k).readR8 d = v := by
  cases d <;> first | contradiction | rfl

theorem onlyR8F_setFlags (s : State) (z n h c : Bool) (k : Nat) : OnlyR8F s ((s.setFlags z n h c).withCost k) [] :=
  ⟨by intro r h1 h2; cases r <;> first | rfl | contradiction, rfl, rfl, rfl, fun b => rfl⟩

theorem onlyR8F_setFlags_setA (s : State) (z n h c : Bool) (v : Byte) (k : Nat) :
    OnlyR8F s (((s.setFlags z n h c).setA v).withCost k) [.a] :=
  ⟨by intro r h1 h2; cases r <;> first | rfl | contradiction, rfl, rfl, rfl, fun b => rfl⟩

theorem readRR_writeRR (s : State) (r : RR) (v : Word) : (s.writeRR r v).readRR r = v := by
  cases r
  · exact cat_hi_lo v
  · exact cat_hi_lo v
  · exact cat_hi_lo v
  · rfl

theorem onlyRR_writeRR (s : State) (r : RR) (v : Word) (k : Nat) : OnlyRR s ((s.writeRR r v).withCost k) [r] := by
  cases r <;> exact ⟨⟨by intro r h; cases r <;> first | rfl | simp at h, rfl, rfl, rfl, fun b => rfl⟩, rfl⟩

theorem onlyRRF_writeRR (s : State) (r : RR) (v : Word) (z n h c : Bool) (k : Nat) :
    OnlyRRF s (((s.writeRR r v).setFlags z n h c).withCost k) [r] := by
  cases r <;> exact ⟨by intro r h; cases r <;> first | rfl | simp at h, rfl, rfl, rfl, fun b => rfl⟩

theorem flagsAre_setFlags (s : State) (z n h c : Bool) : FlagsAre (s.setFlags z n h c) z n h c := by
  simp [FlagsAre, State.flagZ, State.flagN, State.flagH, State.flagC]

/-- The flags of a state that ends in `setFlags`, given what each flag is. -/
theorem flagsAre_of_eq (s : State) (k : Nat) {z n h c z' n' h' c' : Bool} (e : z = z') (e1 : n = n') (e2 : h = h')
    (e3 : c = c') : FlagsAre ((s.setFlags z n h c).withCost k) z' n' h' c' := by
  subst e e1 e2 e3; exact flagsAre_setFlags s z n h c

/-- As `flagsAre_of_eq`, where A is written after the flags. -/
theorem flagsAre_setA_of_eq (s : State) (v : Byte) (k : Nat) {z n h c z' n' h' c' : Bool} (e : z = z') (e1 : n = n')
    (e2 : h = h') (e3 : c = c') : FlagsAre (((s.setFlags z n h c).setA v).withCost k) z' n' h' c' := by
  subst e e1 e2 e3; exact flagsAre_setFlags s z n h c

/-! ### Operand forms -/

theorem costOf_12 (r : R8) : costOf r 1 2 = if r = .atHl then 2 else 1 := by cases r <;> rfl

theorem highPage_eq (n : Byte) : highPage n = BitVec.ofNat 16 (0xFF00 + n.toNat) := by
  apply BitVec.eq_of_toNat_eq
  rw [highPage, cat_toNat, BitVec.toNat_ofNat]
  have := n.isLt
  have h : BitVec.toNat (255 : Byte) = 255 := rfl
  rw [h]; omega

theorem cond_iff (s : State) (cc : CC) : s.cond cc = true ↔ CondHolds s cc := by
  cases cc <;> simp [State.cond, CondHolds, State.flagZ, State.flagC]

theorem sub_two_eq (w : Word) : w - 2 = w - 1 - 1 := by
  apply BitVec.eq_of_toInt_eq; have := w.isLt; apply congrArg; bv_omega

theorem sub_two_add_one (w : Word) : w - 2 + 1 = w - 1 := by bv_omega

@[simp] theorem sub_two_add_two (w : Word) : w - 2#16 + 2#16 = w := by bv_omega

/-- A push is two bus writes, the high byte first, and SP two lower (00_scope.md R17). -/
theorem push16_eq (s : State) (v : Word) :
    s.push16 v = { (s.busWrite (s.cpu.sp - 1) (hi v)).busWrite (s.cpu.sp - 2) (lo v) with
      cpu := { s.cpu with sp := s.cpu.sp - 2 } } := by
  have e : ∀ (t : State) (x : Word), t.setSp x = { t with cpu := { t.cpu with sp := x } } := fun _ _ => rfl
  rw [sub_two_eq]
  simp only [State.push16, e, busWrite_withCpu]

@[simp] theorem push16_cpu (s : State) (v : Word) : (s.push16 v).cpu = { s.cpu with sp := s.cpu.sp - 2 } := by
  rw [push16_eq]

/-- A call writes the two bytes of the old PC below SP and goes to its target. -/
theorem callTo_spec (a : Word) (k : Nat) (s : State) :
    ∃ t, callTo a k s = .next t ∧ t.cost = k ∧ t.cpu = { s.cpu with sp := s.cpu.sp - 2, pc := a } ∧
      OnlyStores s t (s.cpu.sp - 1) (hi s.cpu.pc) (s.cpu.sp - 2) (lo s.cpu.pc) := by
  refine ⟨_, rfl, rfl, ?_, ?_⟩
  · rw [push16_eq]; rfl
  · rw [push16_eq]; exact onlyStores_of_eq (.inr (sub_two_eq _)) rfl

@[simp] theorem stackTop_setPc (s : State) (a : Word) : (s.setPc a).stackTop = s.stackTop := rfl

@[simp] theorem stackTop_withCost (s : State) (k : Nat) : (s.withCost k).stackTop = s.stackTop := rfl

/-- What a push leaves on top of a stack in plain memory. -/
theorem stackTop_push16 (s : State) (v : Word) (w : Memory.wf s.mem = true)
    (h1 : (route (s.cpu.sp - 1)).isMemory = true) (h2 : (route (s.cpu.sp - 2)).isMemory = true) :
    (s.push16 v).stackTop = v := by
  have hr : s.reaches (s.cpu.sp - 2) (s.cpu.sp - 1) = false := by
    simp only [State.reaches, Bool.or_eq_false_iff]
    refine ⟨beq_eq_false_iff_ne.2 (by intro h; bv_omega), ?_⟩
    split <;> simp_all [Region.isMemory]
  have key := onlyStores_of_eq (s := s) (a := s.cpu.sp - 1) (a' := s.cpu.sp - 2) (v := hi v) (v' := lo v)
    (t := { (s.busWrite (s.cpu.sp - 1) (hi v)).busWrite (s.cpu.sp - 2) (lo v) with
      cpu := { s.cpu with sp := s.cpu.sp - 2 } }) (.inr (sub_two_eq _)) (by rw [busWrite_only, busWrite_only])
  obtain ⟨-, -, k1, k2⟩ := key
  have k1 := k1 w h1 hr
  have k2 := k2 w h2
  rw [push16_eq]
  simp only [State.stackTop, State.busRead16]
  rw [sub_two_add_one, k1, k2, cat_hi_lo]

end Sys2Proof.Laws
end

