-- ==== Sys2Proof/Laws/Effect.lean ====
section
/-! SUPPORT. Everything an instruction can do, said once: it changes CPU registers, or also makes one bus write or two
neighbouring ones, or is one of the four that write IME, the EI latch or the halt bit. -/

namespace Sys2Proof.Laws

open Sys2Proof.Machine Sys2Proof.Bits

/-- CPU registers that an instruction may leave after those of s: the low nibble of F is 0 or F is unchanged. -/
def CpuOk (s : State) (c : Cpu) : Prop := c.f.extractLsb' 0 4 = 0 ∨ c.f = s.cpu.f

/-- The outcomes of an instruction i on s. -/
inductive ExecEffect (i : Instr) (s : State) : Result → Prop
  | regs (c : Cpu) (k : Nat) (h1 : 1 ≤ k) (h6 : k ≤ 6) (hc : CpuOk s c) :
      ExecEffect i s (.next { s with cpu := c, cost := k })
  | store (a : Word) (v : Byte) (c : Cpu) (k : Nat) (h1 : 1 ≤ k) (h6 : k ≤ 6) (hc : CpuOk s c) :
      ExecEffect i s (.next { s.busWrite a v with cpu := c, cost := k })
  | stores (a : Word) (v : Byte) (a' : Word) (v' : Byte) (c : Cpu) (k : Nat) (h1 : 1 ≤ k) (h6 : k ≤ 6)
      (hc : CpuOk s c) : ExecEffect i s (.next { (s.busWrite a v).busWrite a' v' with cpu := c, cost := k })
  | halt (hi : i = .halt) : ExecEffect i s (.next { s with irq := { s.irq with halted := true }, cost := 1 })
  | di (hi : i = .di) :
      ExecEffect i s (.next { s with irq := { s.irq with ime := false, eiPending := false }, cost := 1 })
  | ei (hi : i = .ei) : ExecEffect i s (.next { s with irq := { s.irq with eiPending := true }, cost := 1 })
  | reti (hi : i = .reti) (c : Cpu) (hc : c.f = s.cpu.f) :
      ExecEffect i s (.next { s with cpu := c, irq := { s.irq with ime := true, eiPending := false }, cost := 4 })

section
variable {i : Instr} (s : State)

theorem effect_nop {k : Nat} (h1 : 1 ≤ k) (h6 : k ≤ 6) : ExecEffect i s (finish s k) :=
  .regs s.cpu k h1 h6 (.inr rfl)

theorem effect_loadR8R8 (d r : R8) {k : Nat} (h1 : 1 ≤ k) (h6 : k ≤ 6) : ExecEffect i s (loadR8R8 d r k s) := by
  cases d <;> first
    | exact .regs _ k h1 h6 (.inr rfl)
    | exact .store s.hl (s.readR8 r) (s.busWrite s.hl (s.readR8 r)).cpu k h1 h6 (.inr (by simp))

theorem effect_loadR8Imm (d : R8) (n : Byte) {k : Nat} (h1 : 1 ≤ k) (h6 : k ≤ 6) :
    ExecEffect i s (loadR8Imm d n k s) := by
  cases d <;> first
    | exact .regs _ k h1 h6 (.inr rfl)
    | exact .store s.hl n (s.busWrite s.hl n).cpu k h1 h6 (.inr (by simp))

theorem effect_loadAFrom (a : Word) {k : Nat} (h1 : 1 ≤ k) (h6 : k ≤ 6) : ExecEffect i s (loadAFrom a k s) :=
  .regs _ k h1 h6 (.inr rfl)

theorem effect_storeATo (a : Word) {k : Nat} (h1 : 1 ≤ k) (h6 : k ≤ 6) : ExecEffect i s (storeATo a k s) :=
  .store a s.cpu.a (s.busWrite a s.cpu.a).cpu k h1 h6 (.inr (by simp))

theorem effect_loadAInd (m : Ind) : ExecEffect i s (loadAInd m s) := by
  cases m <;> exact .regs _ 2 (by decide) (by decide) (.inr rfl)

theorem effect_storeAInd (m : Ind) : ExecEffect i s (storeAInd m s) := by
  have h : ∀ a v, (s.busWrite a v).cpu.f = s.cpu.f := by simp
  cases m <;> exact .store _ s.cpu.a _ 2 (by decide) (by decide) (.inr (h _ _))

theorem effect_loadRRImm (r : RR) (v : Word) : ExecEffect i s (loadRRImm r v s) := by
  cases r <;> exact .regs _ 3 (by decide) (by decide) (.inr rfl)

theorem effect_push16 (v : Word) (pc : Word) {k : Nat} (h1 : 1 ≤ k) (h6 : k ≤ 6) :
    ExecEffect i s (finish ((s.push16 v).setPc pc) k) := by
  rw [push16_eq]
  exact .stores _ _ _ _ _ k h1 h6 (.inr rfl)

theorem effect_pushQQ (q : QQ) : ExecEffect i s (pushQQ q s) := by
  rw [pushQQ, push16_eq]
  exact .stores _ _ _ _ _ 4 (by decide) (by decide) (.inr rfl)

theorem low_nibble_and_F0 (v : Byte) : (v &&& 0xF0).extractLsb' 0 4 = 0 := by
  apply BitVec.eq_of_getLsbD_eq
  intro j hj
  have : j = 0 ∨ j = 1 ∨ j = 2 ∨ j = 3 := by omega
  rcases this with h | h | h | h <;> subst h <;> simp

theorem effect_popQQ (q : QQ) : ExecEffect i s (popQQ q s) := by
  cases q
  case af => exact .regs _ 3 (by decide) (by decide) (.inl (low_nibble_and_F0 _))
  all_goals exact .regs _ 3 (by decide) (by decide) (.inr rfl)

theorem effect_aluR8 (op : AluOp) (r : R8) : ExecEffect i s (Machine.aluR8 op r s) := by
  cases op <;> cases r <;> exact .regs _ _ (by decide) (by decide) (.inl (packFlags_low _ _ _ _))

theorem effect_aluImm (op : AluOp) (n : Byte) : ExecEffect i s (aluImm op n s) := by
  cases op <;> exact .regs _ 2 (by decide) (by decide) (.inl (packFlags_low _ _ _ _))

/-- An instruction that writes a register or the byte at HL, then the flags. -/
theorem effect_writeR8_setFlags (r : R8) (v : Byte) (z n h c : Bool) {k : Nat} (h1 : 1 ≤ k) (h6 : k ≤ 6) :
    ExecEffect i s (finish ((s.writeR8 r v).setFlags z n h c) k) := by
  cases r <;> first
    | exact .regs _ k h1 h6 (.inl (packFlags_low _ _ _ _))
    | exact .store s.hl v { (s.busWrite s.hl v).cpu with f := packFlags z n h c } k h1 h6
        (.inl (packFlags_low _ _ _ _))

theorem effect_incR8 (r : R8) : ExecEffect i s (Machine.incR8 r s) :=
  effect_writeR8_setFlags s r _ _ _ _ _ (by cases r <;> decide) (by cases r <;> decide)

theorem effect_decR8 (r : R8) : ExecEffect i s (Machine.decR8 r s) :=
  effect_writeR8_setFlags s r _ _ _ _ _ (by cases r <;> decide) (by cases r <;> decide)

theorem effect_shiftR8 (op : ShiftOp) (r : R8) : ExecEffect i s (shiftR8 op r s) :=
  effect_writeR8_setFlags s r _ _ _ _ _ (by cases r <;> decide) (by cases r <;> decide)

/-- An instruction that writes a pair, then the flags. -/
theorem effect_writeRR_setFlags (r : RR) (v : Word) (z n h c : Bool) {k : Nat} (h1 : 1 ≤ k) (h6 : k ≤ 6) :
    ExecEffect i s (finish ((s.writeRR r v).setFlags z n h c) k) := by
  cases r <;> exact .regs _ k h1 h6 (.inl (packFlags_low _ _ _ _))

theorem effect_setFlags (z n h c : Bool) {k : Nat} (h1 : 1 ≤ k) (h6 : k ≤ 6) :
    ExecEffect i s (finish (s.setFlags z n h c) k) := .regs _ k h1 h6 (.inl (packFlags_low _ _ _ _))

theorem effect_addHlRR (r : RR) : ExecEffect i s (addHlRR r s) :=
  effect_writeRR_setFlags s .hl _ _ _ _ _ (by decide) (by decide)

theorem effect_incRR (r : RR) : ExecEffect i s (incRR r s) := by
  cases r <;> exact .regs _ 2 (by decide) (by decide) (.inr rfl)

theorem effect_decRR (r : RR) : ExecEffect i s (decRR r s) := by
  cases r <;> exact .regs _ 2 (by decide) (by decide) (.inr rfl)

theorem effect_rotateA (op : ShiftOp) : ExecEffect i s (rotateA op s) :=
  effect_writeR8_setFlags s .a _ _ _ _ _ (by decide) (by decide)

theorem effect_bitR8 (b : Fin 8) (r : R8) : ExecEffect i s (bitR8 b r s) :=
  effect_setFlags s _ _ _ _ (by cases r <;> decide) (by cases r <;> decide)

theorem effect_resR8 (b : Fin 8) (r : R8) : ExecEffect i s (resR8 b r s) :=
  effect_loadR8Imm s r _ (by cases r <;> decide) (by cases r <;> decide)

theorem effect_setR8 (b : Fin 8) (r : R8) : ExecEffect i s (setR8 b r s) :=
  effect_loadR8Imm s r _ (by cases r <;> decide) (by cases r <;> decide)

theorem effect_executeExtended (op2 : Byte) : ExecEffect i s (executeExtended op2 s) := by
  simp only [executeExtended]
  generalize fieldX op2 = x
  match x with
  | 0 => exact effect_shiftR8 s _ _
  | 1 => exact effect_bitR8 s _ _
  | 2 => exact effect_resR8 s _ _
  | 3 => exact effect_setR8 s _ _

/-- An effect of the prefix row on the state past op2 is one on the state before it. -/
theorem effect_of_setPc (pc : Word) {r : Result} (h : ExecEffect .prefixCb (s.setPc pc) r) :
    ExecEffect .prefixCb s r := by
  have e : ∀ a v, (s.setPc pc).busWrite a v = { s.busWrite a v with cpu := { s.cpu with pc := pc } } :=
    fun a v => busWrite_withCpu s a v _
  cases h with
  | regs c k h1 h6 hc => exact .regs c k h1 h6 hc
  | store a v c k h1 h6 hc => rw [e]; exact .store a v c k h1 h6 hc
  | stores a v a' v' c k h1 h6 hc => rw [e, busWrite_withCpu]; exact .stores a v a' v' c k h1 h6 hc
  | halt hi => cases hi
  | di hi => cases hi
  | ei hi => cases hi
  | reti hi c hc => cases hi

theorem effect_jumpIf (cc : CC) (a : Word) {k k' : Nat} (h1 : 1 ≤ k) (h6 : k ≤ 6) (h1' : 1 ≤ k') (h6' : k' ≤ 6) :
    ExecEffect i s (jumpIf cc a k k' s) := by
  unfold jumpIf
  split
  · exact .regs _ k h1 h6 (.inr rfl)
  · exact effect_nop s h1' h6'

theorem effect_callIf (cc : CC) (a : Word) : ExecEffect i s (callIf cc a s) := by
  unfold callIf
  split
  · exact effect_push16 s _ _ (by decide) (by decide)
  · exact effect_nop s (by decide) (by decide)

theorem effect_retIf (cc : CC) : ExecEffect i s (retIf cc s) := by
  unfold retIf
  split
  · exact .regs _ 5 (by decide) (by decide) (.inr rfl)
  · exact effect_nop s (by decide) (by decide)

end

/-- Every instruction's outcome is one of the effects. -/
theorem exec_effect (i : Instr) (s : State) : ExecEffect i s (exec i s) := by
  revert i
  apply instr_families
  case ldR8R8 =>
    intro d r h
    rw [exec_ldR8R8 d r s h]
    exact effect_loadR8R8 s _ _ (by split <;> decide) (by split <;> decide)
  case ldR8N8 =>
    intro d n
    rw [exec_ldR8N8]
    exact effect_loadR8Imm s _ _ (by cases d <;> decide) (by cases d <;> decide)
  case incR8 => intro r; rw [exec_incR8]; exact effect_incR8 s r
  case decR8 => intro r; rw [exec_decR8]; exact effect_decR8 s r
  case aluR8 => intro op r; rw [exec_aluR8]; exact effect_aluR8 s op r
  case aluN8 => intro op n; rw [exec_aluN8]; exact effect_aluImm s op n
  case ldRrN16 => intro r v; rw [exec_ldRrN16]; exact effect_loadRRImm s r v
  case addHlRr => intro r; rw [exec_addHlRr]; exact effect_addHlRR s r
  case incRr => intro r; rw [exec_incRr]; exact effect_incRR s r
  case decRr => intro r; rw [exec_decRr]; exact effect_decRR s r
  case ldIndA => intro m; rw [exec_ldIndA]; exact effect_storeAInd s m
  case ldAInd => intro m; rw [exec_ldAInd]; exact effect_loadAInd s m
  case push => intro q; rw [exec_push]; exact effect_pushQQ s q
  case pop => intro q; rw [exec_pop]; exact effect_popQQ s q
  case jrCc =>
    intro cc e
    rw [exec_jrCc]
    exact effect_jumpIf s cc _ (by decide) (by decide) (by decide) (by decide)
  case jpCc =>
    intro cc a
    rw [exec_jpCc]
    exact effect_jumpIf s cc a (by decide) (by decide) (by decide) (by decide)
  case callCc => intro cc a; rw [exec_callCc]; exact effect_callIf s cc a
  case retCc => intro cc; rw [exec_retCc]; exact effect_retIf s cc
  case rst => intro y; rw [exec_rst]; exact effect_push16 s _ _ (by decide) (by decide)
  case unassigned => intro u; rw [exec_unassigned]; exact effect_nop s (by decide) (by decide)
  case shift => intro op r; rw [exec_shift]; exact effect_shiftR8 s op r
  case bit => intro b r; rw [exec_bit]; exact effect_bitR8 s b r
  case res => intro b r; rw [exec_res]; exact effect_resR8 s b r
  case set => intro b r; rw [exec_set]; exact effect_setR8 s b r
  case ldAtA16Sp =>
    intro a
    exact .stores _ _ _ _ _ 5 (by decide) (by decide) (.inr (by simp [State.busWrite16]))
  case stop => intro n; exact effect_nop s (by decide) (by decide)
  case jrE8 => intro e; exact .regs _ 3 (by decide) (by decide) (.inr rfl)
  case jpA16 => intro a; exact .regs _ 4 (by decide) (by decide) (.inr rfl)
  case callA16 => intro a; exact effect_push16 s _ _ (by decide) (by decide)
  case ldhAtA8A => intro n; exact effect_storeATo s _ (by decide) (by decide)
  case addSpE8 => intro e; exact effect_writeRR_setFlags s .sp _ _ _ _ _ (by decide) (by decide)
  case ldAtA16A => intro a; exact effect_storeATo s _ (by decide) (by decide)
  case ldhAAtA8 => intro n; exact effect_loadAFrom s _ (by decide) (by decide)
  case ldHlSpE8 => intro e; exact effect_writeRR_setFlags s .hl _ _ _ _ _ (by decide) (by decide)
  case ldAAtA16 => intro a; exact effect_loadAFrom s _ (by decide) (by decide)
  case nop => exact effect_nop s (by decide) (by decide)
  case rlca => exact effect_rotateA s .rlc
  case rrca => exact effect_rotateA s .rrc
  case rla => exact effect_rotateA s .rl
  case rra => exact effect_rotateA s .rr
  case daa => exact effect_writeR8_setFlags s .a _ _ _ _ _ (by decide) (by decide)
  case cpl => exact effect_writeR8_setFlags s .a _ _ _ _ _ (by decide) (by decide)
  case scf => exact effect_setFlags s _ _ _ _ (by decide) (by decide)
  case ccf => exact effect_setFlags s _ _ _ _ (by decide) (by decide)
  case halt => exact .halt rfl
  case ret => exact .regs _ 4 (by decide) (by decide) (.inr rfl)
  case prefixCb => exact effect_of_setPc s _ (effect_executeExtended _ _)
  case reti => exact .reti rfl _ rfl
  case ldhAtCA => exact effect_storeATo s _ (by decide) (by decide)
  case jpHl => exact .regs _ 1 (by decide) (by decide) (.inr rfl)
  case ldhAAtC => exact effect_loadAFrom s _ (by decide) (by decide)
  case di => exact .di rfl
  case ldSpHl => exact .regs _ 2 (by decide) (by decide) (.inr rfl)
  case ei => exact .ei rfl

end Sys2Proof.Laws
end

