-- ==== Sys2Proof/Laws/Ppu.lean ====
section
/-! SUPPORT. The PPU: what each of its operations can change, and what a transition leaves. -/

namespace Sys2Proof.Laws

open Sys2Proof.Machine Sys2Proof.Bits

/-! ### STAT's bits -/

theorem getLsbD_setBit_same (v : Byte) (i : Nat) (h : i < 8) (b : Bool) : (setBit v i b).getLsbD i = b := by
  cases b <;> simp [setBit, h]

theorem getLsbD_setBit_other (v : Byte) (i j : Nat) (h : j ≠ i) (b : Bool) :
    (setBit v i b).getLsbD j = v.getLsbD j := by
  by_cases hj : j < 8
  · cases b
    · simp only [setBit]
      have : ¬ (j - i = 0 ∧ ¬ j < i) := by omega
      simp [hj]
      intro _
      omega
    · simp only [setBit]
      have : ¬ (j - i = 0 ∧ ¬ j < i) := by omega
      simp [hj]
      intro _
      omega
  · rw [BitVec.getLsbD_of_ge _ _ (by omega), BitVec.getLsbD_of_ge _ _ (by omega)]

/-- The coincidence bit does not reach STAT[1:0]. -/
theorem setBit_two_low (v : Byte) (b : Bool) : (setBit v 2 b).extractLsb' 0 2 = v.extractLsb' 0 2 := by
  apply BitVec.eq_of_getLsbD_eq
  intro i hi
  simp only [BitVec.getLsbD_extractLsb', Nat.zero_add]
  rw [getLsbD_setBit_other _ _ _ (by omega)]

/-- STAT with the mode bits written: the mode in STAT[1:0], every other bit as before (60_exceptions.md R503). -/
theorem syncStat_bits (v : Byte) (m : BitVec 2) :
    ((v &&& 0xFC) ||| m.setWidth 8).extractLsb' 0 2 = m ∧
    ∀ j, 2 ≤ j → ((v &&& 0xFC) ||| m.setWidth 8).getLsbD j = v.getLsbD j := by
  constructor
  · apply BitVec.eq_of_getLsbD_eq
    intro i hi
    have : i = 0 ∨ i = 1 := by omega
    rcases this with h | h <;> subst h <;> simp
  · intro j hj
    by_cases h8 : j < 8
    · have : j = 2 ∨ j = 3 ∨ j = 4 ∨ j = 5 ∨ j = 6 ∨ j = 7 := by omega
      rcases this with h | h | h | h | h | h <;> subst h <;> simp
    · rw [BitVec.getLsbD_of_ge _ _ (by omega), BitVec.getLsbD_of_ge _ _ (by omega)]

/-! ### What each operation can change -/

theorem request_only (s : State) (k : Nat) :
    s.request k = { s with irq := { s.irq with ifReg := s.irq.ifReg ||| (1#8 <<< k) } } := rfl

theorem statRequest_only (s : State) (b : Nat) :
    ∃ q, s.statRequest b = { s with irq := { s.irq with ifReg := q } } := by
  simp only [State.statRequest]
  split
  · exact ⟨_, rfl⟩
  · exact ⟨_, rfl⟩

/-- STAT after a write of LY or LYC, as `setLy` leaves it: bit 2 is the coincidence whenever it was one before. -/
theorem setLy_only (s : State) (v : Byte) :
    ∃ q w, s.setLy v = { s with ppu := { s.ppu with ly := v, stat := w }, irq := { s.irq with ifReg := q } } ∧
      (∀ j, j ≠ 2 → w.getLsbD j = s.ppu.stat.getLsbD j) ∧
      (s.ppu.stat.getLsbD 2 = (s.ppu.ly == s.ppu.lyc) → w.getLsbD 2 = (v == s.ppu.lyc)) := by
  simp only [State.setLy]
  split
  · rename_i h
    exact ⟨_, _, rfl, fun _ _ => rfl, fun h' => by rw [h', h]⟩
  · obtain ⟨q, h⟩ := lycCheck_only { s with ppu := { s.ppu with ly := v } }
    exact ⟨q, _, h, fun j hj => getLsbD_setBit_other _ _ _ hj _, fun _ => getLsbD_setBit_same _ _ (by decide) _⟩

theorem renderLine_only (s : State) (ly : Nat) : ∃ f, s.renderLine ly = { s with frame := f } := by
  simp only [State.renderLine]
  split
  · exact ⟨_, rfl⟩
  · exact ⟨_, rfl⟩

theorem syncStat_only (s : State) :
    ∃ w, s.syncStat = { s with ppu := { s.ppu with stat := w } } ∧
      w.extractLsb' 0 2 = modeNum s.ppu.mode ∧ ∀ j, 2 ≤ j → w.getLsbD j = s.ppu.stat.getLsbD j :=
  ⟨_, rfl, (syncStat_bits _ _).1, (syncStat_bits _ _).2⟩

theorem enterOamScan_only (s : State) :
    ∃ q, s.enterOamScan = { s with
      ppu := { s.ppu with mode := .oamScan, dotsRemaining := s.ppu.dotsRemaining + 80 }
      irq := { s.irq with ifReg := q } } := by
  obtain ⟨q, h⟩ := statRequest_only (s.enterMode .oamScan Params.oamScanDots) 5
  exact ⟨q, h⟩

theorem enterVblank_only (s : State) :
    ∃ q, s.enterVblank = { s with
      ppu := { s.ppu with
        mode := .vblank, dotsRemaining := s.ppu.dotsRemaining + 4560
        vblankDots := (-s.ppu.dotsRemaining).toNat, frameCount := s.ppu.frameCount + 1 }
      irq := { s.irq with ifReg := q }
      presented := some { frameCount := s.ppu.frameCount + 1, frame := s.frame } } ∧ q.getLsbD 0 = true := by
  simp only [State.enterVblank, State.statRequest]
  split
  · exact ⟨_, rfl, by simp [State.request]⟩
  · exact ⟨_, rfl, by simp⟩

/-- Writing a bit with the value it has changes nothing. -/
theorem setBit_getLsbD_self (v : Byte) (i : Nat) (h : i < 8) : setBit v i (v.getLsbD i) = v := by
  apply BitVec.eq_of_getLsbD_eq
  intro j _
  by_cases e : j = i
  · subst e; exact getLsbD_setBit_same v j h _
  · exact getLsbD_setBit_other v i j e _

/-- `set_LY(v)` whole (60_exceptions.md R505, R513). -/
theorem setLy_eq (s : State) (v : Byte) :
    s.setLy v = { s with
      ppu := { s.ppu with ly := v, stat := setBit s.ppu.stat 2 (s.coincidenceBit v) }
      irq := { s.irq with ifReg := s.irq.ifReg ||| (if s.coincidenceRequest v then 0x02 else 0) } } := by
  have h0 : s.irq.ifReg ||| 0 = s.irq.ifReg := BitVec.or_zero
  by_cases e : s.ppu.ly = v
  · subst e
    simp only [State.setLy, State.coincidenceBit, State.coincidenceRequest, if_true, ne_eq, not_true_eq_false,
      decide_false, Bool.false_and, Bool.false_eq_true, if_false, h0, setBit_getLsbD_self _ _ (by decide : 2 < 8)]
  · have e' : v ≠ s.ppu.ly := fun h => e h.symm
    have hb : s.coincidenceBit v = (v == s.ppu.lyc) := if_neg e'
    have hq : s.coincidenceRequest v = ((v == s.ppu.lyc) && !s.ppu.stat.getLsbD 2 && s.ppu.stat.getLsbD 6) := by
      simp only [State.coincidenceRequest, decide_eq_true e', Bool.true_and]
      rfl
    rw [hb, hq]
    simp only [State.setLy, if_neg e, State.lycCheck, State.request]
    split
    · rfl
    · rw [h0]

/-- The STAT interrupt of a mode entry whole (60_exceptions.md R512). -/
theorem statRequest_eq (s : State) (b : Nat) :
    s.statRequest b =
      { s with irq := { s.irq with ifReg := s.irq.ifReg ||| (if s.ppu.stat.getLsbD b then 0x02 else 0) } } := by
  have h0 : s.irq.ifReg ||| 0 = s.irq.ifReg := BitVec.or_zero
  simp only [State.statRequest]
  split
  · rfl
  · rw [h0]

/-! ### The transitions (60_exceptions.md R502) -/

/-- STAT after a transition to mode m with LY = v: STAT[1:0] is the mode, bit 7 as before, and bit 2 is the
coincidence if it was one before. -/
def StatAfter (s : State) (w : Byte) (m : Mode) (v : Byte) : Prop :=
  w.extractLsb' 0 2 = modeNum m ∧ w.getLsbD 7 = s.ppu.stat.getLsbD 7 ∧
  (s.ppu.stat.getLsbD 2 = (s.ppu.ly == s.ppu.lyc) → w.getLsbD 2 = (v == s.ppu.lyc))

theorem ppuTransition_oamScan (s : State) (hm : s.ppu.mode = .oamScan) :
    ∃ w, StatAfter s w .draw s.ppu.ly ∧
      s.ppuTransition =
        { s with ppu := { s.ppu with mode := .draw, dotsRemaining := s.ppu.dotsRemaining + 230, stat := w } } := by
  obtain ⟨w, h, h1, h2⟩ := syncStat_only (s.enterMode .draw Params.drawDots)
  refine ⟨w, ⟨h1, h2 7 (by decide), fun e => (h2 2 (by decide)).trans e⟩, ?_⟩
  simp only [State.ppuTransition, hm]
  exact h

theorem ppuTransition_draw (s : State) (hm : s.ppu.mode = .draw) :
    ∃ w q, StatAfter s w .hblank s.ppu.ly ∧
      s.ppuTransition = { s with
        frame := (s.renderLine s.ppu.ly.toNat).frame
        irq := { s.irq with ifReg := q }
        ppu := { s.ppu with mode := .hblank, dotsRemaining := s.ppu.dotsRemaining + 146, stat := w } } := by
  obtain ⟨f, hf⟩ := renderLine_only s s.ppu.ly.toNat
  obtain ⟨q, hq⟩ := statRequest_only ((s.renderLine s.ppu.ly.toNat).enterMode .hblank Params.hblankDots) 3
  obtain ⟨w, h, h1, h2⟩ :=
    syncStat_only (((s.renderLine s.ppu.ly.toNat).enterMode .hblank Params.hblankDots).statRequest 3)
  have e : s.ppuTransition =
      (((s.renderLine s.ppu.ly.toNat).enterMode .hblank Params.hblankDots).statRequest 3).syncStat := by
    simp only [State.ppuTransition, hm]
  rw [hq, hf] at h1 h2
  refine ⟨w, q, ⟨h1, h2 7 (by decide), fun e => (h2 2 (by decide)).trans e⟩, ?_⟩
  rw [e, h, hq, hf]
  rfl

theorem ppuTransition_vblank (s : State) (hm : s.ppu.mode = .vblank) :
    ∃ w q, StatAfter s w .oamScan 0 ∧
      s.ppuTransition = { s with
        irq := { s.irq with ifReg := q }
        ppu := { s.ppu with mode := .oamScan, dotsRemaining := s.ppu.dotsRemaining + 80, stat := w, ly := 0 } } := by
  obtain ⟨q, w, h, ha, hb⟩ := setLy_only s 0
  obtain ⟨q', hq⟩ := enterOamScan_only (s.setLy 0)
  obtain ⟨w', h', h1, h2⟩ := syncStat_only (s.setLy 0).enterOamScan
  have e : s.ppuTransition = (s.setLy 0).enterOamScan.syncStat := by simp only [State.ppuTransition, hm]
  rw [hq, h] at h1 h2
  refine ⟨w', q', ⟨h1, (h2 7 (by decide)).trans (ha 7 (by decide)), fun e => (h2 2 (by decide)).trans (hb e)⟩, ?_⟩
  rw [e, h', hq, h]

/-- A transition out of h-blank on a line other than the last. -/
theorem ppuTransition_hblank (s : State) (hm : s.ppu.mode = .hblank) (hl : s.ppu.ly ≠ 143) :
    ∃ w q, StatAfter s w .oamScan (s.ppu.ly + 1) ∧
      s.ppuTransition = { s with
        irq := { s.irq with ifReg := q }
        ppu := { s.ppu with
          mode := .oamScan, dotsRemaining := s.ppu.dotsRemaining + 80, stat := w, ly := s.ppu.ly + 1 } } := by
  obtain ⟨q, w, h, ha, hb⟩ := setLy_only s (s.ppu.ly + 1)
  obtain ⟨q', hq⟩ := enterOamScan_only (s.setLy (s.ppu.ly + 1))
  obtain ⟨w', h', h1, h2⟩ := syncStat_only (s.setLy (s.ppu.ly + 1)).enterOamScan
  have hn : ¬ (s.setLy (s.ppu.ly + 1)).ppu.ly = 144 := by
    rw [h]; intro (h0 : s.ppu.ly + 1 = 144); apply hl; bv_omega
  have e : s.ppuTransition = (s.setLy (s.ppu.ly + 1)).enterOamScan.syncStat := by
    simp only [State.ppuTransition, hm]
    rw [if_neg hn]
  rw [hq, h] at h1 h2
  refine ⟨w', q', ⟨h1, (h2 7 (by decide)).trans (ha 7 (by decide)), fun e => (h2 2 (by decide)).trans (hb e)⟩, ?_⟩
  rw [e, h', hq, h]

/-- A transition out of h-blank on the last visible line: v-blank begins (60_exceptions.md R511). -/
theorem ppuTransition_lastLine (s : State) (hm : s.ppu.mode = .hblank) (hl : s.ppu.ly = 143) :
    ∃ w q, StatAfter s w .vblank 144 ∧ q.getLsbD 0 = true ∧
      s.ppuTransition = { s with
        irq := { s.irq with ifReg := q }
        presented := some { frameCount := s.ppu.frameCount + 1, frame := s.frame }
        ppu := { s.ppu with
          mode := .vblank, dotsRemaining := s.ppu.dotsRemaining + 4560, stat := w, ly := 144
          vblankDots := (-s.ppu.dotsRemaining).toNat, frameCount := s.ppu.frameCount + 1 } } := by
  have h144 : s.ppu.ly + 1 = 144 := by rw [hl]; rfl
  obtain ⟨q, w, h, ha, hb⟩ := setLy_only s 144
  obtain ⟨q', hq, hq0⟩ := enterVblank_only (s.setLy 144)
  obtain ⟨w', h', h1, h2⟩ := syncStat_only (s.setLy 144).enterVblank
  have hy : (s.setLy 144).ppu.ly = 144 := by rw [h]
  have e : s.ppuTransition = (s.setLy 144).enterVblank.syncStat := by
    simp only [State.ppuTransition, hm, h144]
    rw [if_pos hy]
  rw [hq, h] at h1 h2
  refine ⟨w', q', ⟨h1, (h2 7 (by decide)).trans (ha 7 (by decide)), fun e => (h2 2 (by decide)).trans (hb e)⟩, hq0, ?_⟩
  rw [e, h', hq, h]

/-- Each transition adds at least 80 dots. -/
theorem ppuTransition_dots (s : State) : s.ppu.dotsRemaining + 80 ≤ s.ppuTransition.ppu.dotsRemaining := by
  cases hm : s.ppu.mode
  case oamScan => obtain ⟨w, -, h⟩ := ppuTransition_oamScan s hm; rw [h]; show _ ≤ _ + _; omega
  case draw => obtain ⟨w, q, -, h⟩ := ppuTransition_draw s hm; rw [h]; show _ ≤ _ + _; omega
  case vblank =>
    obtain ⟨w, q, -, h⟩ := ppuTransition_vblank s hm
    exact Int.le_of_eq (congrArg (·.ppu.dotsRemaining) h).symm
  case hblank =>
    by_cases hl : s.ppu.ly = 143
    · obtain ⟨w, q, -, -, h⟩ := ppuTransition_lastLine s hm hl; rw [h]; show _ ≤ _ + _; omega
    · obtain ⟨w, q, -, h⟩ := ppuTransition_hblank s hm hl; exact Int.le_of_eq (congrArg (·.ppu.dotsRemaining) h).symm

/-- Everything a transition can change. -/
theorem ppuTransition_only (s : State) :
    let t := s.ppuTransition
    t = { s with
      frame := t.frame
      presented := t.presented
      irq := { s.irq with ifReg := t.irq.ifReg }
      ppu := { s.ppu with
        mode := t.ppu.mode, dotsRemaining := t.ppu.dotsRemaining, stat := t.ppu.stat, ly := t.ppu.ly
        vblankDots := t.ppu.vblankDots, frameCount := t.ppu.frameCount } } := by
  cases hm : s.ppu.mode
  case oamScan => obtain ⟨w, -, h⟩ := ppuTransition_oamScan s hm; simp only [h]
  case draw => obtain ⟨w, q, -, h⟩ := ppuTransition_draw s hm; simp only [h]
  case vblank => obtain ⟨w, q, -, h⟩ := ppuTransition_vblank s hm; simp only [h]
  case hblank =>
    by_cases hl : s.ppu.ly = 143
    · obtain ⟨w, q, -, -, h⟩ := ppuTransition_lastLine s hm hl; simp only [h]
    · obtain ⟨w, q, -, h⟩ := ppuTransition_hblank s hm hl; simp only [h]

/-! ### The advance (60_exceptions.md R501) -/

/-- The loop leaves everything that a transition leaves. -/
theorem ppuLoop_only (fuel : Nat) (s : State) :
    let t := State.ppuLoop fuel s
    t = { s with
      frame := t.frame
      presented := t.presented
      irq := { s.irq with ifReg := t.irq.ifReg }
      ppu := { s.ppu with
        mode := t.ppu.mode, dotsRemaining := t.ppu.dotsRemaining, stat := t.ppu.stat, ly := t.ppu.ly
        vblankDots := t.ppu.vblankDots, frameCount := t.ppu.frameCount } } := by
  induction fuel generalizing s with
  | zero => rfl
  | succ fuel ih =>
    simp only [State.ppuLoop]
    split
    · have h := ih s.ppuTransition
      simp only at h ⊢
      rw [h]
      have h2 := ppuTransition_only s
      simp only at h2
      rw [h2]
    · rfl

/-- With enough rounds the loop ends with dots left. -/
theorem ppuLoop_dots (fuel : Nat) (s : State) (h : -s.ppu.dotsRemaining < 80 * fuel) :
    0 < (State.ppuLoop fuel s).ppu.dotsRemaining := by
  induction fuel generalizing s with
  | zero => simp only [State.ppuLoop]; omega
  | succ fuel ih =>
    simp only [State.ppuLoop]
    split
    · apply ih
      have := ppuTransition_dots s
      omega
    · omega

theorem ppuFuel_enough (s : State) : -s.ppu.dotsRemaining < 80 * s.ppuFuel := by
  simp only [State.ppuFuel, Params.oamScanDots]; omega

/-- An advance by fewer dots than every mode's budget makes at most one transition. -/
theorem ppuAdvance_short (s : State) (n : Nat) (h : (s.spendDots n).ppu.dotsRemaining > -80) :
    s.ppuAdvance n =
      if (s.spendDots n).ppu.dotsRemaining ≤ 0 then (s.spendDots n).ppuTransition else s.spendDots n := by
  have e : s.ppuAdvance n = State.ppuLoop (s.spendDots n).ppuFuel (s.spendDots n) := rfl
  rw [e]
  generalize s.spendDots n = t at h ⊢
  have hf : t.ppuFuel = 1 := by
    simp only [State.ppuFuel, Params.oamScanDots]; omega
  rw [hf]
  rfl

/-- What spending dots leaves outside v-blank. -/
theorem spendDots_visible (s : State) (n : Nat) (h : s.ppu.mode ≠ .vblank) :
    s.spendDots n = { s with ppu := { s.ppu with dotsRemaining := s.ppu.dotsRemaining - (4 * n : Nat) } } := by
  simp only [State.spendDots, Params.dotsPerCycle]
  rw [if_neg h]

/-- What spending dots leaves in v-blank: LY by the dots since its start (60_exceptions.md R504). -/
theorem spendDots_vblank (s : State) (n : Nat) (h : s.ppu.mode = .vblank) :
    s.spendDots n = State.setLy
      { s with ppu := { s.ppu with
          dotsRemaining := s.ppu.dotsRemaining - (4 * n : Nat), vblankDots := s.ppu.vblankDots + 4 * n } }
      (vblankLy (s.ppu.vblankDots + 4 * n)) := by
  simp only [State.spendDots, Params.dotsPerCycle]
  rw [if_pos h]

/-- Everything an advance of the PPU can change. -/
theorem ppuAdvance_only (s : State) (n : Nat) :
    let t := s.ppuAdvance n
    t = { s with
      frame := t.frame
      presented := t.presented
      irq := { s.irq with ifReg := t.irq.ifReg }
      ppu := { s.ppu with
        mode := t.ppu.mode, dotsRemaining := t.ppu.dotsRemaining, stat := t.ppu.stat, ly := t.ppu.ly
        vblankDots := t.ppu.vblankDots, frameCount := t.ppu.frameCount } } := by
  have e : s.ppuAdvance n = State.ppuLoop (s.spendDots n).ppuFuel (s.spendDots n) := rfl
  have h := ppuLoop_only (s.spendDots n).ppuFuel (s.spendDots n)
  simp only at h ⊢
  rw [e, h]
  by_cases hv : s.ppu.mode = .vblank
  · obtain ⟨q, w, h2, -, -⟩ := setLy_only
      { s with ppu := { s.ppu with
          dotsRemaining := s.ppu.dotsRemaining - (4 * n : Nat), vblankDots := s.ppu.vblankDots + 4 * n } }
      (vblankLy (s.ppu.vblankDots + 4 * n))
    rw [spendDots_vblank s n hv, h2]
  · rw [spendDots_visible s n hv]

section
variable (s : State) (n : Nat)

@[simp] theorem ppuAdvance_cpu : (s.ppuAdvance n).cpu = s.cpu := by rw [ppuAdvance_only]
@[simp] theorem ppuAdvance_ime : (s.ppuAdvance n).irq.ime = s.irq.ime := by rw [ppuAdvance_only]
@[simp] theorem ppuAdvance_eiPending : (s.ppuAdvance n).irq.eiPending = s.irq.eiPending := by rw [ppuAdvance_only]
@[simp] theorem ppuAdvance_halted : (s.ppuAdvance n).irq.halted = s.irq.halted := by rw [ppuAdvance_only]
@[simp] theorem ppuAdvance_ieReg : (s.ppuAdvance n).irq.ieReg = s.irq.ieReg := by rw [ppuAdvance_only]
@[simp] theorem ppuAdvance_timer : (s.ppuAdvance n).timer = s.timer := by rw [ppuAdvance_only]
@[simp] theorem ppuAdvance_cart : (s.ppuAdvance n).cart = s.cart := by rw [ppuAdvance_only]
@[simp] theorem ppuAdvance_joypad : (s.ppuAdvance n).joypad = s.joypad := by rw [ppuAdvance_only]
@[simp] theorem ppuAdvance_mem : (s.ppuAdvance n).mem = s.mem := by rw [ppuAdvance_only]
@[simp] theorem ppuAdvance_cycles : (s.ppuAdvance n).cycles = s.cycles := by rw [ppuAdvance_only]
@[simp] theorem ppuAdvance_cost : (s.ppuAdvance n).cost = s.cost := by rw [ppuAdvance_only]
@[simp] theorem ppuAdvance_hostInput : (s.ppuAdvance n).hostInput = s.hostInput := by rw [ppuAdvance_only]

end

/-! ### STAT's enable bits -/

/-- STAT[7:3] as before. -/
def StatHigh (s t : State) : Prop := t.ppu.stat.extractLsb' 3 5 = s.ppu.stat.extractLsb' 3 5

theorem statHigh_of_bits {s t : State} (h : ∀ j, 3 ≤ j → t.ppu.stat.getLsbD j = s.ppu.stat.getLsbD j) :
    StatHigh s t := by
  apply BitVec.eq_of_getLsbD_eq
  intro i hi
  simp only [BitVec.getLsbD_extractLsb', hi, decide_true, Bool.true_and]
  exact h _ (by omega)

theorem setLy_statHigh (s : State) (v : Byte) : StatHigh s (s.setLy v) := by
  obtain ⟨q, w, h, hb, -⟩ := setLy_only s v
  apply statHigh_of_bits
  intro j hj
  rw [h]
  exact hb j (by omega)

/-- A transition keeps STAT[7:3] (60_exceptions.md R502, R503, R513). -/
theorem ppuTransition_statHigh (s : State) : StatHigh s s.ppuTransition := by
  have hs : ∀ a : State, StatHigh a a.syncStat := fun a => by
    obtain ⟨w, h, -, hb⟩ := syncStat_only a
    apply statHigh_of_bits
    intro j hj
    rw [h]
    exact hb j (by omega)
  have hq : ∀ (a : State) (b : Nat), (a.statRequest b).ppu = a.ppu := fun a b => by
    obtain ⟨q, h⟩ := statRequest_only a b
    rw [h]
  have hv : ∀ a : State, StatHigh a a.enterVblank := fun a => by
    obtain ⟨q, h, -⟩ := enterVblank_only a
    unfold StatHigh
    rw [h]
  have ho : ∀ a : State, StatHigh a a.enterOamScan := fun a => by
    obtain ⟨q, h⟩ := enterOamScan_only a
    unfold StatHigh
    rw [h]
  cases hm : s.ppu.mode <;> simp only [State.ppuTransition, hm]
  case oamScan => exact (hs _).trans rfl
  case draw =>
    obtain ⟨f, hf⟩ := renderLine_only s s.ppu.ly.toNat
    refine (hs _).trans ?_
    rw [hq, hf]
    rfl
  case vblank => exact (hs _).trans ((ho _).trans (setLy_statHigh s 0))
  case hblank =>
    split
    · exact (hs _).trans ((hv _).trans (setLy_statHigh s _))
    · exact (hs _).trans ((ho _).trans (setLy_statHigh s _))

/-- An advance of the PPU keeps STAT[7:3]. -/
theorem ppuAdvance_statHigh (s : State) (n : Nat) : StatHigh s (s.ppuAdvance n) := by
  have hl : ∀ (f : Nat) (a : State), StatHigh a (State.ppuLoop f a) := by
    intro f
    induction f with
    | zero => exact fun _ => rfl
    | succ f ih =>
      intro a
      simp only [State.ppuLoop]
      split
      · exact (ih _).trans (ppuTransition_statHigh a)
      · rfl
  refine (hl _ _).trans ?_
  by_cases hv : s.ppu.mode = .vblank
  · rw [spendDots_vblank s n hv]
    exact setLy_statHigh _ _
  · rw [spendDots_visible s n hv]

end Sys2Proof.Laws
end

