-- ==== Sys2Proof/Laws/Render.lean ====
section
/-! SUPPORT. The line renderer: what it depends on, and what it leaves. -/

namespace Sys2Proof.Laws

open Sys2Proof.Machine Sys2Proof.Bits

/-- Rendering a visible line writes its row. -/
theorem renderLine_eq (s : State) (ly : Nat) (h : ly < 144) :
    s.renderLine ly = { s with frame := storeWrite blankLine s.frame ly (s.lineShades ly) } := if_pos h

/-- What the renderer reads (60_exceptions.md R522): LCDC, the scroll, window and palette registers, and memory. -/
def SameVideo (s t : State) : Prop :=
  t.mem = s.mem ∧ t.ppu.lcdc = s.ppu.lcdc ∧ t.ppu.scy = s.ppu.scy ∧ t.ppu.scx = s.ppu.scx ∧ t.ppu.bgp = s.ppu.bgp ∧
  t.ppu.obp0 = s.ppu.obp0 ∧ t.ppu.obp1 = s.ppu.obp1 ∧ t.ppu.wy = s.ppu.wy ∧ t.ppu.wx = s.ppu.wx

section
variable {s t : State}

theorem vram_congr (h : SameVideo s t) {a : Nat} (h1 : 0x8000 ≤ a) (h2 : a < 0xA000) : t.vram a = s.vram a := by
  have hn : (BitVec.ofNat 16 a).toNat = a := by simp only [BitVec.toNat_ofNat]; omega
  have hm := route_isMemory (a := BitVec.ofNat 16 a) (by omega) (by omega)
  simp only [State.vram]
  rw [busRead_isMemory t hm, busRead_isMemory s hm, h.1]

theorem oam_congr (h : SameVideo s t) {i : Nat} (h1 : i < 160) : t.oam i = s.oam i := by
  have hn : (BitVec.ofNat 16 (0xFE00 + i)).toNat = 0xFE00 + i := by simp only [BitVec.toNat_ofNat]; omega
  have hr := route_oam (a := BitVec.ofNat 16 (0xFE00 + i)) (by omega) (by omega)
  have hm : (route (BitVec.ofNat 16 (0xFE00 + i))).isMemory = true := by rw [hr]; rfl
  simp only [State.oam]
  rw [busRead_isMemory t hm, busRead_isMemory s hm, h.1]

theorem tilePixel_congr (h : SameVideo s t) {a : Nat} (c : Nat) (h1 : 0x8000 ≤ a) (h2 : a + 1 < 0xA000) :
    t.tilePixel a c = s.tilePixel a c := by
  simp only [State.tilePixel]
  rw [vram_congr h h1 (by omega), vram_congr h (by omega) h2]

theorem tileRow_congr (h : SameVideo s t) (b : Byte) (r : Nat) : t.tileRow b r = s.tileRow b r := by
  simp only [State.tileRow, h.2.1]

theorem tileRow_range (s : State) (b : Byte) {r : Nat} (hr : r < 8) :
    0x8000 ≤ s.tileRow b r ∧ s.tileRow b r + 1 < 0xA000 := by
  have h := b.isLt
  simp only [State.tileRow]
  split
  · omega
  · have := BitVec.toInt_eq_toNat_cond b
    split at this <;> omega

theorem layerPixel_congr (h : SameVideo s t) (sel : Bool) {px py : Nat} (hx : px < 256) (hy : py < 256) :
    t.layerPixel (mapBase sel) px py = s.layerPixel (mapBase sel) px py := by
  have hb : mapBase sel = 0x9800 ∨ mapBase sel = 0x9C00 := by cases sel <;> simp [mapBase]
  have hv : t.vram (mapBase sel + 32 * (py / 8) + px / 8) = s.vram (mapBase sel + 32 * (py / 8) + px / 8) :=
    vram_congr h (by omega) (by omega)
  simp only [State.layerPixel]
  rw [hv, tileRow_congr h]
  obtain ⟨h1, h2⟩ := tileRow_range s (s.vram (mapBase sel + 32 * (py / 8) + px / 8)) (Nat.mod_lt py (by decide : 0 < 8))
  exact tilePixel_congr h _ h1 h2

theorem backLayer_congr (h : SameVideo s t) {ly x : Nat} (hl : ly < 144) (hx : x < 160) :
    t.backLayer ly x = s.backLayer ly x := by
  have e1 : t.bgPixel ly x = s.bgPixel ly x := by
    simp only [State.bgPixel, h.2.1, h.2.2.1, h.2.2.2.1]
    exact layerPixel_congr h _ (Nat.mod_lt _ (by decide)) (Nat.mod_lt _ (by decide))
  have e2 : t.windowPixel ly x = s.windowPixel ly x := by
    simp only [State.windowPixel, h.2.1, h.2.2.2.2.2.2.2.1, h.2.2.2.2.2.2.2.2]
    exact layerPixel_congr h _ (by omega) (by omega)
  have e3 : t.windowCovers ly x = s.windowCovers ly x := by
    simp only [State.windowCovers, h.2.1, h.2.2.2.2.2.2.2.1, h.2.2.2.2.2.2.2.2]
  simp only [State.backLayer, e1, e2, e3, h.2.1, h.2.2.2.2.1]

theorem selectSprites_congr (h : SameVideo s t) (ly : Nat) : t.selectSprites ly = s.selectSprites ly := by
  have : (List.range Config.oamEntries).filter (t.spriteCovers ly) =
      (List.range Config.oamEntries).filter (s.spriteCovers ly) := by
    apply List.filter_congr
    intro i hi
    have hi' : i < 40 := List.mem_range.1 hi
    have hh : t.spriteHeight = s.spriteHeight := by simp only [State.spriteHeight, h.2.1]
    unfold State.spriteCovers
    rw [hh, oam_congr h (by omega)]
  simp only [State.selectSprites, this]

theorem selectSprites_lt (s : State) (ly : Nat) {i : Nat} (h : i ∈ s.selectSprites ly) : i < 40 := by
  have h1 := List.mem_of_mem_take h
  exact List.mem_range.1 (List.mem_filter.1 h1).1

theorem spriteOpaque_congr (h : SameVideo s t) {ly x i : Nat} (hl : ly < 144) (hi : i < 40) :
    t.spriteOpaque ly x i = s.spriteOpaque ly x i := by
  have a0 := oam_congr h (i := 4 * i) (by omega)
  have a1 := oam_congr h (i := 4 * i + 1) (by omega)
  have a2 := oam_congr h (i := 4 * i + 2) (by omega)
  have a3 := oam_congr h (i := 4 * i + 3) (by omega)
  have ah : t.spriteHeight = s.spriteHeight := by simp only [State.spriteHeight, h.2.1]
  have hh : s.spriteHeight ≤ 16 := by simp only [State.spriteHeight]; split <;> omega
  simp only [State.spriteOpaque, a0, a1, a2, a3, ah]
  rw [tilePixel_congr h]
  · omega
  · have b1 := (s.oam (4 * i + 2)).isLt
    have b2 := (s.oam (4 * i + 2) &&& 0xFE).isLt
    have e : ∀ r0 : Nat, r0 ≤ 159 →
        (if (s.oam (4 * i + 3)).getLsbD 6 = true then s.spriteHeight - 1 - r0 else r0) ≤ 159 := by
      intro r0 hr; split <;> omega
    have e1 := e (ly + 16 - (s.oam (4 * i)).toNat) (by omega)
    generalize (if (s.oam (4 * i + 3)).getLsbD 6 = true then
      s.spriteHeight - 1 - (ly + 16 - (s.oam (4 * i)).toNat) else ly + 16 - (s.oam (4 * i)).toNat) = row at e1 ⊢
    split <;> omega

theorem spritePixel_congr (h : SameVideo s t) {ly x : Nat} (hl : ly < 144) (sel : List Nat) (hs : ∀ i ∈ sel, i < 40) :
    t.spritePixel sel ly x = s.spritePixel sel ly x := by
  simp only [State.spritePixel]
  generalize (none : Option SpritePixel) = b
  induction sel generalizing b with
  | nil => rfl
  | cons i sel ih =>
    simp only [List.foldl_cons]
    rw [spriteOpaque_congr h hl (hs i List.mem_cons_self)]
    exact ih (fun j hj => hs j (List.mem_cons_of_mem _ hj)) _

theorem lineSprites_lt (s : State) (ly : Nat) : ∀ i ∈ s.lineSprites ly, i < 40 := by
  intro i hi
  simp only [State.lineSprites] at hi
  split at hi
  · exact selectSprites_lt s ly hi
  · cases hi

/-- Two states with the same video registers and memory draw the same line. -/
theorem lineShades_congr (h : SameVideo s t) {ly : Nat} (hl : ly < 144) : t.lineShades ly = s.lineShades ly := by
  have hs : t.lineSprites ly = s.lineSprites ly := by
    simp only [State.lineSprites, h.2.1, selectSprites_congr h]
  simp only [State.lineShades]
  apply List.map_congr_left
  intro x hx
  have hx' : x < 160 := List.mem_range.1 hx
  simp only [State.pixel, hs, backLayer_congr h hl hx', spritePixel_congr h hl _ (lineSprites_lt s ly),
    State.composite, h.2.2.2.2.2.1, h.2.2.2.2.2.2.1]

end

/-! ### The renderer in whole numbers (Safety.lean) -/

theorem planeIndex_lt (s : State) (a c : Nat) : s.planeIndex a c < 4 := by
  simp only [State.planeIndex]; omega

theorem layerIndex_lt (s : State) (map px py : Nat) : s.layerIndex map px py < 4 := planeIndex_lt _ _ _

theorem getLsbD_eq_div (v : Byte) (k : Nat) : v.getLsbD k = decide (v.toNat / 2 ^ k % 2 = 1) := by
  rw [BitVec.getLsbD, Nat.testBit_eq_decide_div_mod_eq]

/-- The model's tile pixel is the index that the plane bytes give (60_exceptions.md R514). -/
theorem tilePixel_eq (s : State) (a c : Nat) : s.tilePixel a c = BitVec.ofNat 2 (s.planeIndex a c) := by
  simp only [State.tilePixel, State.planeIndex, State.vram, State.byteAt, getLsbD_eq_div]
  generalize (s.busRead (BitVec.ofNat 16 (a + 1))).toNat / 2 ^ (7 - c) = p
  generalize (s.busRead (BitVec.ofNat 16 a)).toNat / 2 ^ (7 - c) = q
  rcases Nat.mod_two_eq_zero_or_one p with h | h <;> rcases Nat.mod_two_eq_zero_or_one q with h' | h' <;>
    rw [h, h'] <;> rfl

/-- The model's tile row address is the one of 60_exceptions.md R514. -/
theorem tileRow_eq (s : State) (t : Byte) (r : Nat) : s.tileRow t r = s.tileAddress t.toNat r := by
  simp only [State.tileRow, State.tileAddress]
  split
  · rfl
  · have := BitVec.toInt_eq_toNat_cond t
    have := t.isLt
    split <;> omega

theorem layerPixel_eq (s : State) (map px py : Nat) :
    s.layerPixel map px py = BitVec.ofNat 2 (s.layerIndex map px py) := by
  simp only [State.layerPixel, State.layerIndex, tilePixel_eq, tileRow_eq]
  rfl

theorem shade_eq (p : Byte) (i : Nat) (h : i < 4) :
    shade p (BitVec.ofNat 2 i) = BitVec.ofNat 2 (p.toNat / 4 ^ i % 4) := by
  apply BitVec.eq_of_toNat_eq
  simp only [shade, BitVec.extractLsb'_toNat, BitVec.toNat_ofNat]
  have : i % 2 ^ 2 = i := Nat.mod_eq_of_lt h
  rw [this, Nat.shiftRight_eq_div_pow, Nat.pow_mul]
  simp

/-- The background or window layer in whole numbers (60_exceptions.md R515 to R518). -/
theorem backLayer_eq (s : State) (ly x : Nat) :
    s.backLayer ly x = (BitVec.ofNat 2 (s.backIndex ly x), BitVec.ofNat 2 (s.backShade ly x)) := by
  have hlt : s.backIndex ly x < 4 := by
    simp only [State.backIndex]
    split
    · decide
    · split <;> exact layerIndex_lt _ _ _ _
  by_cases h0 : s.ppu.lcdc.getLsbD 0 = true
  · have hn : ¬ s.ppu.lcdc.getLsbD 0 = false := by rw [h0]; decide
    have e : (if s.windowCovers ly x then s.windowPixel ly x else s.bgPixel ly x) =
        BitVec.ofNat 2 (s.backIndex ly x) := by
      have hw : s.windowCovers ly x = true ↔
          (s.ppu.lcdc.getLsbD 5 = true ∧ s.ppu.wy.toNat ≤ ly ∧ s.ppu.wx.toNat ≤ x + 7) := by
        simp only [State.windowCovers, Bool.and_eq_true, decide_eq_true_eq, and_assoc]
        constructor
        · rintro ⟨a, b, c⟩; exact ⟨a, b, by omega⟩
        · rintro ⟨a, b, c⟩; exact ⟨a, b, by omega⟩
      simp only [State.backIndex, if_neg hn, hw]
      split
      · exact layerPixel_eq _ _ _ _
      · exact layerPixel_eq _ _ _ _
    simp only [State.backLayer, if_pos h0, e, State.backShade, if_neg hn, shade_eq _ _ hlt]
  · have hf : s.ppu.lcdc.getLsbD 0 = false := by simpa using h0
    simp only [State.backLayer, if_neg h0, State.backIndex, State.backShade, if_pos hf]
    rfl

end Sys2Proof.Laws
end

