-- ==== Sys2Proof/Laws/Timer.lean ====
section
/-! SUPPORT. The timer: what a run of ticks leaves, and that an advance writes only the timer and IF. -/

namespace Sys2Proof.Laws

open Sys2Proof.Machine

theorem or_four (x : Byte) (p : Prop) [Decidable p] : (x ||| 1#8 <<< 2) ||| (if p then 0 else 0x04) = x ||| 0x04 := by
  split
  · exact BitVec.or_zero
  · rw [BitVec.or_assoc]; rfl

/-- `k` ticks count TIMA up by k; it reloads from TMA at each overflow, and interrupt 2 is requested if there is one
(60_exceptions.md R456). -/
theorem timaTicks_spec (k : Nat) (s : State) :
    let t := State.timaTicks k s
    let v := s.timer.tima.toNat + k
    let m := s.timer.tma.toNat
    t = { s with
      timer := { s.timer with tima := t.timer.tima }
      irq := { s.irq with ifReg := s.irq.ifReg ||| (if v < 256 then 0 else 0x04) } } ∧
    t.timer.tima.toNat = (if v < 256 then v else m + (v - 256) % (256 - m)) := by
  induction k generalizing s with
  | zero =>
    have := s.timer.tima.isLt
    simp only [State.timaTicks]
    rw [if_pos (by omega), if_pos (by omega)]
    refine ⟨?_, rfl⟩
    simp
  | succ k ih =>
    have hlt := s.timer.tima.isLt
    have hm := s.timer.tma.isLt
    simp only [State.timaTicks]
    by_cases hf : s.timer.tima = 0xFF
    · have ht : s.timaTick = State.request { s with timer := { s.timer with tima := s.timer.tma } } 2 := by
        simp only [State.timaTick]; rw [if_pos hf]
      have hfn : s.timer.tima.toNat = 255 := by rw [hf]; rfl
      obtain ⟨h1, h2⟩ := ih (State.request { s with timer := { s.timer with tima := s.timer.tma } } 2)
      rw [ht]
      constructor
      · rw [if_neg (show ¬ s.timer.tima.toNat + (k + 1) < 256 by omega)]
        refine h1.trans ?_
        have e : (State.request { s with timer := { s.timer with tima := s.timer.tma } } 2).irq.ifReg |||
            (if s.timer.tma.toNat + k < 256 then 0 else 0x04) = s.irq.ifReg ||| 0x04 := or_four _ _
        exact congrArg (fun x => { s with
          irq := { s.irq with ifReg := x }
          timer := { s.timer with tima := (State.timaTicks k
            (State.request { s with timer := { s.timer with tima := s.timer.tma } } 2)).timer.tima } }) e
      · rw [h2, if_neg (show ¬ s.timer.tima.toNat + (k + 1) < 256 by omega), hfn]
        show (if s.timer.tma.toNat + k < 256 then s.timer.tma.toNat + k else _) = _
        by_cases hv : s.timer.tma.toNat + k < 256
        · rw [if_pos hv, Nat.mod_eq_of_lt (by omega)]; omega
        · rw [if_neg hv]
          show s.timer.tma.toNat + (s.timer.tma.toNat + k - 256) % (256 - s.timer.tma.toNat) = _
          have e : 255 + (k + 1) - 256 = (s.timer.tma.toNat + k - 256) + (256 - s.timer.tma.toNat) := by omega
          rw [e, Nat.add_mod_right]
    · have ht : s.timaTick = { s with timer := { s.timer with tima := s.timer.tima + 1 } } := by
        simp only [State.timaTick]; rw [if_neg hf]
      rw [ht]
      have hfn : s.timer.tima.toNat ≠ 255 := fun h => hf (BitVec.eq_of_toNat_eq h)
      have hn : (s.timer.tima + 1).toNat = s.timer.tima.toNat + 1 := by
        rw [BitVec.toNat_add]; have : BitVec.toNat (1 : Byte) = 1 := rfl; rw [this]; omega
      obtain ⟨h1, h2⟩ := ih { s with timer := { s.timer with tima := s.timer.tima + 1 } }
      simp only [hn, show s.timer.tima.toNat + 1 + k = s.timer.tima.toNat + (k + 1) by omega] at h1 h2 ⊢
      exact ⟨h1, h2⟩

theorem timaTicks_add (a b : Nat) (s : State) :
    State.timaTicks b (State.timaTicks a s) = State.timaTicks (a + b) s := by
  induction a generalizing s with
  | zero => simp [State.timaTicks]
  | succ a ih => rw [Nat.add_right_comm]; exact ih _

/-- The period by the two bits of TAC (60_exceptions.md R451). -/
theorem timerPeriod_eq (t : Byte) : timerPeriod t =
    if t.getLsbD 1 then (if t.getLsbD 0 then 64 else 16) else (if t.getLsbD 0 then 4 else 256) := by
  revert t; decide +kernel

theorem timerPeriod_pos (t : Byte) : 0 < timerPeriod t := by
  rw [timerPeriod_eq]
  repeat' split
  all_goals decide

theorem timerPeriod_le (t : Byte) : timerPeriod t ≤ 256 := by
  rw [timerPeriod_eq]
  repeat' split
  all_goals decide

theorem timaAdvance_enabled (s : State) (n : Nat) (h : timerEnabled s.timer.tac = true) :
    s.timaAdvance n = State.timaTicks ((s.timer.timaSub + n) / timerPeriod s.timer.tac)
      { s with timer := { s.timer with timaSub := (s.timer.timaSub + n) % timerPeriod s.timer.tac } } := if_pos h

theorem timaAdvance_disabled (s : State) (n : Nat) (h : timerEnabled s.timer.tac = false) : s.timaAdvance n = s :=
  if_neg (by rw [h]; decide)

/-- TIMA's part of an advance writes TIMA, its sub-counter and IF. -/
theorem timaAdvance_only (s : State) (n : Nat) :
    let t := s.timaAdvance n
    t = { s with
      timer := { s.timer with tima := t.timer.tima, timaSub := t.timer.timaSub }
      irq := { s.irq with ifReg := t.irq.ifReg } } ∧
    (s.timer.timaSub < 256 → t.timer.timaSub < 256) := by
  cases h : timerEnabled s.timer.tac
  · rw [timaAdvance_disabled s n h]; exact ⟨rfl, id⟩
  · rw [timaAdvance_enabled s n h]
    obtain ⟨h1, -⟩ := timaTicks_spec ((s.timer.timaSub + n) / timerPeriod s.timer.tac)
      { s with timer := { s.timer with timaSub := (s.timer.timaSub + n) % timerPeriod s.timer.tac } }
    rw [h1]
    refine ⟨rfl, fun _ => ?_⟩
    exact Nat.lt_of_lt_of_le (Nat.mod_lt _ (timerPeriod_pos _)) (timerPeriod_le _)

/-- Everything an advance of the timer can change, and the range of the sub-counters after it. -/
theorem timerAdvance_only (s : State) (n : Nat) :
    let t := s.timerAdvance n
    t = { s with
      timer := { t.timer with tma := s.timer.tma, tac := s.timer.tac }
      irq := { s.irq with ifReg := t.irq.ifReg } } ∧
    t.timer.divSub < 64 ∧ (s.timer.timaSub < 256 → t.timer.timaSub < 256) := by
  obtain ⟨h, h'⟩ := timaAdvance_only (s.divAdvance n) n
  have e : s.timerAdvance n = (s.divAdvance n).timaAdvance n := rfl
  simp only [e]
  refine ⟨?_, ?_, h'⟩
  · rw [h]; rfl
  · rw [h]; exact Nat.mod_lt _ (by decide)

section
variable (s : State) (n : Nat)

@[simp] theorem timerAdvance_cpu : (s.timerAdvance n).cpu = s.cpu := by rw [(timerAdvance_only s n).1]
@[simp] theorem timerAdvance_ime : (s.timerAdvance n).irq.ime = s.irq.ime := by rw [(timerAdvance_only s n).1]
@[simp] theorem timerAdvance_eiPending : (s.timerAdvance n).irq.eiPending = s.irq.eiPending := by
  rw [(timerAdvance_only s n).1]
@[simp] theorem timerAdvance_halted : (s.timerAdvance n).irq.halted = s.irq.halted := by
  rw [(timerAdvance_only s n).1]
@[simp] theorem timerAdvance_ieReg : (s.timerAdvance n).irq.ieReg = s.irq.ieReg := by rw [(timerAdvance_only s n).1]
@[simp] theorem timerAdvance_ppu : (s.timerAdvance n).ppu = s.ppu := by rw [(timerAdvance_only s n).1]
@[simp] theorem timerAdvance_cart : (s.timerAdvance n).cart = s.cart := by rw [(timerAdvance_only s n).1]
@[simp] theorem timerAdvance_joypad : (s.timerAdvance n).joypad = s.joypad := by rw [(timerAdvance_only s n).1]
@[simp] theorem timerAdvance_mem : (s.timerAdvance n).mem = s.mem := by rw [(timerAdvance_only s n).1]
@[simp] theorem timerAdvance_frame : (s.timerAdvance n).frame = s.frame := by rw [(timerAdvance_only s n).1]
@[simp] theorem timerAdvance_presented : (s.timerAdvance n).presented = s.presented := by
  rw [(timerAdvance_only s n).1]
@[simp] theorem timerAdvance_cycles : (s.timerAdvance n).cycles = s.cycles := by rw [(timerAdvance_only s n).1]
@[simp] theorem timerAdvance_cost : (s.timerAdvance n).cost = s.cost := by rw [(timerAdvance_only s n).1]
@[simp] theorem timerAdvance_hostInput : (s.timerAdvance n).hostInput = s.hostInput := by
  rw [(timerAdvance_only s n).1]

end

end Sys2Proof.Laws
end

