-- ==== Sys2Proof/Laws/Step.lean ====
section
/-! SUPPORT. The parts of a step around `exec`: the EI delay, the interrupts and the host's input, and what each can
change. -/

namespace Sys2Proof.Laws

open Sys2Proof.Machine Sys2Proof.Bits

/-! ### The EI delay -/

/-- No EI is pending after the EI delay. -/
theorem eiDelay_only (s : State) :
    s.eiDelay = { s with irq := { s.irq with ime := s.irq.ime || s.irq.eiPending, eiPending := false } } := by
  unfold State.eiDelay
  cases h : s.irq.eiPending
  · rw [if_neg (by decide), Bool.or_false, ← h]
  · rw [if_pos rfl, Bool.or_true]

/-! ### Interrupts -/

theorem pending_getLsbD (q : Irq) (k : Nat) :
    q.pending.getLsbD k = (decide (k < 5) && (q.ieReg.getLsbD k && q.ifReg.getLsbD k)) := by
  simp [Irq.pending]

/-- The lowest pending bit is the one that no other pending bit is below (60_exceptions.md R442). -/
theorem lowestSet_eq {p : BitVec 5} {k : Nat} (h : p.getLsbD k = true) (hj : ∀ j < k, p.getLsbD j = false) :
    lowestSet p = k := by
  have hk : k < 5 := by
    apply Nat.lt_of_not_le
    intro hc
    rw [BitVec.getLsbD_of_ge _ _ hc] at h
    cases h
  have : k = 0 ∨ k = 1 ∨ k = 2 ∨ k = 3 ∨ k = 4 := by omega
  have h0 : 0 < k → p.getLsbD 0 = false := hj 0
  have h1 : 1 < k → p.getLsbD 1 = false := hj 1
  have h2 : 2 < k → p.getLsbD 2 = false := hj 2
  have h3 : 3 < k → p.getLsbD 3 = false := hj 3
  unfold lowestSet
  rcases this with h' | h' | h' | h' | h' <;> subst h' <;> simp_all

theorem lowestSet_spec {p : BitVec 5} (h : p ≠ 0) : lowestSet p < 5 ∧ p.getLsbD (lowestSet p) = true := by
  revert p; decide

/-- An interrupt entry is two bus writes below SP and a jump to the vector, with IME and the request bit cleared
(60_exceptions.md R441). -/
theorem dispatch_eq (s : State) (k : Nat) :
    s.dispatch k =
      let s1 := { s with irq := { s.irq with ime := false, ifReg := s.irq.ifReg &&& ~~~(1#8 <<< k) } }
      { (s1.busWrite (s.cpu.sp - 1) (hi s.cpu.pc)).busWrite (s.cpu.sp - 2) (lo s.cpu.pc) with
        cpu := { s.cpu with sp := s.cpu.sp - 2, pc := BitVec.ofNat 16 (0x40 + 8 * k) } } := by
  simp only [State.dispatch, push16_eq]
  rfl

/-- The three outcomes of an evaluation of the interrupts. -/
theorem interruptEvaluate_cases (s : State) :
    (s.interruptEvaluate = s ∧ ((s.irq.ime = false ∧ s.irq.halted = false) ∨ s.irq.pending = 0)) ∨
    (s.interruptEvaluate = { s with irq := { s.irq with halted := false } } ∧ s.irq.ime = false ∧
      s.irq.halted = true ∧ s.irq.pending ≠ 0) ∨
    (s.interruptEvaluate = State.dispatch { s with irq := { s.irq with halted := false } } (lowestSet s.irq.pending) ∧
      s.irq.ime = true ∧ s.irq.pending ≠ 0) := by
  unfold State.interruptEvaluate
  by_cases hp : s.irq.pending = 0
  · left
    rw [if_pos hp]
    exact ⟨ite_self s, .inr hp⟩
  · rw [if_neg hp]
    cases hi : s.irq.ime
    · cases hh : s.irq.halted
      · exact .inl ⟨rfl, .inl ⟨rfl, rfl⟩⟩
      · refine .inr (.inl ⟨?_, rfl, rfl, hp⟩)
        simp [hi]
    · refine .inr (.inr ⟨?_, rfl, hp⟩)
      simp [hi]

theorem interruptCost_le (s : State) : s.interruptCost ≤ 5 := by
  unfold State.interruptCost
  split <;> decide

/-! ### The host's input -/

theorem applyButton_only (s : State) (ev : ButtonEvent) :
    s.applyButton ev = { s with
      joypad := { (s.applyButton ev).joypad with p1Select := s.joypad.p1Select }
      irq := { s.irq with ifReg := (s.applyButton ev).irq.ifReg } } := by
  simp only [State.applyButton, Joypad.setReleased, State.request]
  split <;> cases ev.button <;> rfl

theorem applyButtons_only (evs : List ButtonEvent) (s : State) :
    let t := evs.foldl State.applyButton s
    t = { s with
      joypad := { t.joypad with p1Select := s.joypad.p1Select }
      irq := { s.irq with ifReg := t.irq.ifReg } } := by
  induction evs generalizing s with
  | nil => rfl
  | cons ev evs ih =>
    have h := ih (s.applyButton ev)
    simp only [List.foldl_cons] at h ⊢
    rw [h, applyButton_only s ev]

/-- Everything the host's input at a step boundary can change. -/
theorem applyHostInput_only (s : State) :
    let t := s.applyHostInput
    t = { s with
      joypad := { t.joypad with p1Select := s.joypad.p1Select }
      irq := { s.irq with ifReg := t.irq.ifReg }
      hostInput := t.hostInput } := by
  simp only [State.applyHostInput]
  split
  · rfl
  · rename_i evs later _
    have h := applyButtons_only evs { s with hostInput := later }
    simp only at h
    rw [h]

section
variable (s : State)

@[simp] theorem applyHostInput_cpu : s.applyHostInput.cpu = s.cpu := by rw [applyHostInput_only]
@[simp] theorem applyHostInput_ime : s.applyHostInput.irq.ime = s.irq.ime := by rw [applyHostInput_only]
@[simp] theorem applyHostInput_eiPending : s.applyHostInput.irq.eiPending = s.irq.eiPending := by
  rw [applyHostInput_only]
@[simp] theorem applyHostInput_halted : s.applyHostInput.irq.halted = s.irq.halted := by rw [applyHostInput_only]
@[simp] theorem applyHostInput_ieReg : s.applyHostInput.irq.ieReg = s.irq.ieReg := by rw [applyHostInput_only]
@[simp] theorem applyHostInput_timer : s.applyHostInput.timer = s.timer := by rw [applyHostInput_only]
@[simp] theorem applyHostInput_ppu : s.applyHostInput.ppu = s.ppu := by rw [applyHostInput_only]
@[simp] theorem applyHostInput_cart : s.applyHostInput.cart = s.cart := by rw [applyHostInput_only]
@[simp] theorem applyHostInput_mem : s.applyHostInput.mem = s.mem := by rw [applyHostInput_only]
@[simp] theorem applyHostInput_frame : s.applyHostInput.frame = s.frame := by rw [applyHostInput_only]
@[simp] theorem applyHostInput_presented : s.applyHostInput.presented = s.presented := by rw [applyHostInput_only]
@[simp] theorem applyHostInput_cycles : s.applyHostInput.cycles = s.cycles := by rw [applyHostInput_only]
@[simp] theorem applyHostInput_cost : s.applyHostInput.cost = s.cost := by rw [applyHostInput_only]

end

/-! ### The step -/

/-- A step, in one equation: what `exec` (or the idle cycle of a halt) gave, then the end of the CPU step, the PPU's
advance and the host's input. -/
theorem step_of_run {s t : State} (h : s.eiDelay.runInstruction = .next t) :
    step s = .next (t.endStep.ppuAdvance t.endStep.cost).applyHostInput := by
  simp only [step, driverStep, cpuStep, h]

/-- Every run of an instruction or an idle cycle gives a next state, in 1 to 6 cycles, with `cycles` not yet moved. -/
theorem runInstruction_next (s : State) :
    ∃ t, s.runInstruction = .next t ∧ 1 ≤ t.cost ∧ t.cost ≤ 6 ∧ t.cycles = s.cycles := by
  unfold State.runInstruction
  split
  · exact ⟨_, rfl, Nat.le_refl 1, (by decide : 1 ≤ 6), rfl⟩
  · have h := exec_effect s.instrAtPc (s.setPc s.pcAfterFetch)
    generalize exec s.instrAtPc (s.setPc s.pcAfterFetch) = r at h ⊢
    cases h with
    | regs c k h1 h6 hc => exact ⟨_, rfl, h1, h6, rfl⟩
    | store a v c k h1 h6 hc => exact ⟨_, rfl, h1, h6, busWrite_cycles _ _ _⟩
    | stores a v a' v' c k h1 h6 hc =>
      exact ⟨_, rfl, h1, h6, (busWrite_cycles _ _ _).trans (busWrite_cycles _ _ _)⟩
    | halt hi => exact ⟨_, rfl, Nat.le_refl 1, (by decide : 1 ≤ 6), rfl⟩
    | di hi => exact ⟨_, rfl, Nat.le_refl 1, (by decide : 1 ≤ 6), rfl⟩
    | ei hi => exact ⟨_, rfl, Nat.le_refl 1, (by decide : 1 ≤ 6), rfl⟩
    | reti hi c hc => exact ⟨_, rfl, (by decide : 1 ≤ 4), (by decide : 4 ≤ 6), rfl⟩

end Sys2Proof.Laws
end

