-- ==== Sys2Proof/Laws/Invariant.lean ====
section
/-! SUPPORT. The parts of the invariant of Safety.lean under a bus write and under an advance of the PPU. -/

namespace Sys2Proof.Laws

open Sys2Proof.Machine Sys2Proof.Bits

/-! ### A bus write -/

/-- Memory lists addresses of plain memory only. -/
def MemOk (m : List (Nat × Byte)) : Prop := ∀ c ∈ m, c.1 < 0x10000 ∧ (route (BitVec.ofNat 16 c.1)).isMemory = true

theorem memOk_memWrite (m) (n : Nat) (v : Byte) (h : MemOk m) (h1 : n < 65536) (h2 : (route (BitVec.ofNat 16 n)).isMemory = true) : MemOk (Memory.write m n v) := by
  intro c hc
  rcases mem_storeWrite hc with h' | h'
  · exact h c h'
  · rw [h']; exact ⟨h1, h2⟩

theorem memOk_oamDma (s : State) (v : Byte) (h : MemOk s.mem) : MemOk (s.oamDma v).mem := by
  have : ∀ (l : List Nat) (g : State → Nat → Byte) (t : State), (∀ i ∈ l, i < 160) → MemOk t.mem →
      MemOk (l.foldl (fun t i => t.memWrite (0xFE00 + i) (g t i)) t).mem := by
    intro l g
    induction l with
    | nil => intro t _ h; exact h
    | cons i l ih =>
      intro t hl ht
      rw [List.foldl_cons]
      apply ih _ (fun j hj => hl j (List.mem_cons_of_mem _ hj))
      have hi := hl i List.mem_cons_self
      apply memOk_memWrite _ _ _ ht (by omega)
      have hn : (BitVec.ofNat 16 (0xFE00 + i)).toNat = 0xFE00 + i := by simp only [BitVec.toNat_ofNat]; omega
      rw [route_oam (by omega) (by omega)]; rfl
  exact this (List.range 160) (fun t i => t.busRead (BitVec.ofNat 16 (v.toNat * 0x100 + i))) _ (fun i hi => List.mem_range.1 hi) h

theorem storesOk_busWrite (s : State) (a : Word) (v : Byte) (h : s.StoresOk) : (s.busWrite a v).StoresOk := by
  obtain ⟨h1, h2, h3, h4, h5, h6⟩ := h
  refine ⟨memory_wf_busWrite _ _ _ h1, ?_, by rw [busWrite_cartLow]; exact h3, by rw [busWrite_frame]; exact h4, ?_, by rw [busWrite_frame]; exact h6⟩
  · simp only [State.busWrite]
    split
    case h_1 => obtain ⟨_, h⟩ := writeRomFixed_only s a v; rw [h]; exact h2
    case h_23 => obtain ⟨_, h⟩ := lycCheck_only { s with ppu := { s.ppu with lyc := v } }; rw [h]; exact h2
    case h_24 => obtain ⟨_, h, -⟩ := oamDma_only s v; rw [h]; exact h2
    case h_30 =>
      simp only [State.writeBootDisable]; split
      · exact h2
      · have h0 := (overlayLow_spec s.cart.rom s.cart.cartLow h2).1
        generalize overlayLow s.cart.rom s.cart.cartLow = z at h0 ⊢
        exact h0
    all_goals exact h2
  · show MemOk _
    have hm : (route a).isMemory = true → MemOk (s.memWrite a.toNat v).mem := fun hr =>
      memOk_memWrite _ _ _ h5 a.isLt (by rw [BitVec.ofNat_toNat, BitVec.setWidth_eq]; exact hr)
    simp only [State.busWrite]
    split
    case h_1 => obtain ⟨_, h⟩ := writeRomFixed_only s a v; rw [h]; exact h5
    case h_23 => obtain ⟨_, h⟩ := lycCheck_only { s with ppu := { s.ppu with lyc := v } }; rw [h]; exact h5
    case h_24 => exact memOk_oamDma s v h5
    case h_30 => obtain ⟨_, _, h⟩ := writeBootDisable_only s; rw [h]; exact h5
    all_goals first
      | exact h5
      | (rename_i hr; exact hm (by rw [hr]; rfl))

theorem bankSelect_ne_zero (v : Byte) : bankSelect v ≠ 0 := by
  unfold bankSelect; simp only; split
  · decide
  · assumption

theorem coreOk_busWrite (s : State) (a : Word) (v : Byte) (h : s.CoreOk) : (s.busWrite a v).CoreOk := by
  obtain ⟨h1, h2, h3, h4, h5, h6⟩ := h
  refine ⟨by simpa using h1, by simpa using h2, ?_, by rw [busWrite_timaSub]; exact h4, ?_⟩
  · simp only [State.busWrite]
    split
    case h_1 => obtain ⟨_, h⟩ := writeRomFixed_only s a v; rw [h]; exact h3
    case h_23 => obtain ⟨_, h⟩ := lycCheck_only { s with ppu := { s.ppu with lyc := v } }; rw [h]; exact h3
    case h_24 => obtain ⟨_, h, -⟩ := oamDma_only s v; rw [h]; exact h3
    case h_30 => obtain ⟨_, _, h⟩ := writeBootDisable_only s; rw [h]; exact h3
    all_goals first
      | exact h3
      | exact (by decide : 0 < 64)
  · simp only [State.busWrite]
    split
    case h_1 =>
      simp only [State.writeRomFixed]; split
      · rename_i hc
        rw [Bool.and_eq_true] at hc
        refine ⟨bankSelect_ne_zero v, fun hm => ?_⟩
        have : s.cart.isMbc1 = false := hm
        rw [hc.1] at this; cases this
      · exact ⟨h5, h6⟩
    case h_23 => obtain ⟨_, h⟩ := lycCheck_only { s with ppu := { s.ppu with lyc := v } }; rw [h]; exact ⟨h5, h6⟩
    case h_24 => obtain ⟨_, h, -⟩ := oamDma_only s v; rw [h]; exact ⟨h5, h6⟩
    case h_30 => obtain ⟨_, _, h⟩ := writeBootDisable_only s; rw [h]; exact ⟨h5, h6⟩
    all_goals exact ⟨h5, h6⟩

theorem stat_write_bits (v w : Byte) : ((v &&& 0x78) ||| (w &&& 0x07)).getLsbD 7 = false ∧ ((v &&& 0x78) ||| (w &&& 0x07)).extractLsb' 0 2 = w.extractLsb' 0 2 ∧ ((v &&& 0x78) ||| (w &&& 0x07)).getLsbD 2 = w.getLsbD 2 := by
  refine ⟨by simp, ?_, by simp⟩
  apply BitVec.eq_of_getLsbD_eq
  intro i hi
  have : i = 0 ∨ i = 1 := by omega
  rcases this with h|h <;> subst h <;> simp

theorem ppuOk_busWrite (s : State) (a : Word) (v : Byte) (h : s.PpuOk) : (s.busWrite a v).PpuOk := by
  simp only [State.busWrite]
  split
  case h_1 => obtain ⟨_, h'⟩ := writeRomFixed_only s a v; rw [h']; exact h
  case h_23 =>
    obtain ⟨_, h'⟩ := lycCheck_only { s with ppu := { s.ppu with lyc := v } }; rw [h']
    obtain ⟨h1, h2, h3, h4⟩ := h
    exact ⟨(getLsbD_setBit_other _ _ _ (by decide) _).trans h1, (setBit_two_low _ _).trans h2, getLsbD_setBit_same _ _ (by decide) _, h4⟩
  case h_24 => obtain ⟨_, h', -⟩ := oamDma_only s v; rw [h']; exact h
  case h_30 => obtain ⟨_, _, h'⟩ := writeBootDisable_only s; rw [h']; exact h
  case h_19 =>
    obtain ⟨h1, h2, h3, h4⟩ := h
    obtain ⟨s1, s2, s3⟩ := stat_write_bits v s.ppu.stat
    exact ⟨s1, s2.trans h2, s3.trans h3, h4⟩
  all_goals exact h


/-! ### The PPU -/

/-- A transition with less than 80 dots overspent. -/
theorem ppuOk_transition (u : State) (h7 : u.ppu.stat.getLsbD 7 = false) (h2 : u.ppu.stat.getLsbD 2 = (u.ppu.ly == u.ppu.lyc))
    (hd : -80 < u.ppu.dotsRemaining) (hd' : u.ppu.dotsRemaining ≤ 0) (hv : u.ppu.mode ≠ .vblank → u.ppu.ly.toNat < 144) :
    u.ppuTransition.PpuOk := by
  cases hm : u.ppu.mode
  case oamScan =>
    obtain ⟨w, ⟨c1, c2, c3⟩, ht⟩ := ppuTransition_oamScan u hm
    rw [ht]
    refine ⟨c2.trans h7, c1, c3 h2, ?_, ?_, fun _ => hv (by rw [hm]; decide), nofun⟩
    · show 0 < u.ppu.dotsRemaining + 230; omega
    · show u.ppu.dotsRemaining + 230 ≤ 230; omega
  case draw =>
    obtain ⟨w, q, ⟨c1, c2, c3⟩, ht⟩ := ppuTransition_draw u hm
    rw [ht]
    refine ⟨c2.trans h7, c1, c3 h2, ?_, ?_, fun _ => hv (by rw [hm]; decide), nofun⟩
    · show 0 < u.ppu.dotsRemaining + 146; omega
    · show u.ppu.dotsRemaining + 146 ≤ 146; omega
  case vblank =>
    obtain ⟨w, q, ⟨c1, c2, c3⟩, ht⟩ := ppuTransition_vblank u hm
    rw [ht]
    refine ⟨c2.trans h7, c1, c3 h2, ?_, ?_, fun _ => (by decide : (0 : Byte).toNat < 144), nofun⟩
    · show 0 < u.ppu.dotsRemaining + 80; omega
    · show u.ppu.dotsRemaining + 80 ≤ 80; omega
  case hblank =>
    have hl := hv (by rw [hm]; decide)
    by_cases h143 : u.ppu.ly = 143
    · obtain ⟨w, q, ⟨c1, c2, c3⟩, -, ht⟩ := ppuTransition_lastLine u hm h143
      rw [ht]
      refine ⟨c2.trans h7, c1, c3 h2, ?_, ?_, fun h => absurd rfl h, fun _ => ⟨?_, ?_⟩⟩
      · show 0 < u.ppu.dotsRemaining + 4560; omega
      · show u.ppu.dotsRemaining + 4560 ≤ 4560; omega
      · show u.ppu.dotsRemaining + 4560 = 4560 - (((-u.ppu.dotsRemaining).toNat : Nat) : Int); omega
      · show 144 = 144 + min 9 ((-u.ppu.dotsRemaining).toNat / 456); omega
    · obtain ⟨w, q, ⟨c1, c2, c3⟩, ht⟩ := ppuTransition_hblank u hm h143
      rw [ht]
      refine ⟨c2.trans h7, c1, c3 h2, ?_, ?_, fun _ => ?_, nofun⟩
      · show 0 < u.ppu.dotsRemaining + 80; omega
      · show u.ppu.dotsRemaining + 80 ≤ 80; omega
      · show (u.ppu.ly + 1).toNat < 144
        have : u.ppu.ly.toNat ≠ 143 := fun h => h143 (BitVec.eq_of_toNat_eq h)
        rw [BitVec.toNat_add]; have e : BitVec.toNat (1 : Byte) = 1 := rfl; omega

theorem ppuOk_advance (s : State) (n : Nat) (hn : n ≤ 11) (h : s.PpuOk) : (s.ppuAdvance n).PpuOk := by
  obtain ⟨h7, hm, h2, h0, hb, hv, hw⟩ := h
  have key : ∃ u, s.spendDots n = u ∧ u.ppu.stat.getLsbD 7 = false ∧ u.ppu.stat.extractLsb' 0 2 = modeNum u.ppu.mode ∧
      u.ppu.stat.getLsbD 2 = (u.ppu.ly == u.ppu.lyc) ∧ -80 < u.ppu.dotsRemaining ∧ u.ppu.dotsRemaining ≤ modeBudget u.ppu.mode ∧
      (u.ppu.mode ≠ .vblank → u.ppu.ly.toNat < 144) ∧ (u.ppu.mode = .vblank →
    u.ppu.dotsRemaining = 4560 - (u.ppu.vblankDots : Int) ∧
    u.ppu.ly.toNat = 144 + min 9 (u.ppu.vblankDots / 456)) := by
    by_cases hvb : s.ppu.mode = .vblank
    · obtain ⟨hd, hl⟩ := hw hvb
      obtain ⟨q, w, e, a1, a2⟩ := setLy_only
        { s with ppu := { s.ppu with
            dotsRemaining := s.ppu.dotsRemaining - (4 * n : Nat), vblankDots := s.ppu.vblankDots + 4 * n } }
        (vblankLy (s.ppu.vblankDots + 4 * n))
      refine ⟨_, (spendDots_vblank s n hvb).trans e, (a1 7 (by decide)).trans h7, ?_, a2 h2, ?_, ?_, fun h => absurd hvb h, fun _ => ⟨?_, ?_⟩⟩
      · show w.extractLsb' 0 2 = modeNum s.ppu.mode
        rw [← hm]; apply BitVec.eq_of_getLsbD_eq; intro i hi
        simp only [BitVec.getLsbD_extractLsb', Nat.zero_add]
        rw [a1 i (by omega)]
      · show -80 < s.ppu.dotsRemaining - (4 * n : Nat); omega
      · show s.ppu.dotsRemaining - (4 * n : Nat) ≤ modeBudget s.ppu.mode; omega
      · show s.ppu.dotsRemaining - (4 * n : Nat) = 4560 - ((s.ppu.vblankDots + 4 * n : Nat) : Int); omega
      · show (vblankLy (s.ppu.vblankDots + 4 * n)).toNat = 144 + min 9 ((s.ppu.vblankDots + 4 * n) / 456)
        simp only [vblankLy, BitVec.toNat_ofNat, Params.lineDots]; omega
    · refine ⟨_, spendDots_visible s n hvb, h7, hm, h2, ?_, ?_, fun _ => hv hvb, fun h => absurd h hvb⟩
      · show -80 < s.ppu.dotsRemaining - (4 * n : Nat); omega
      · show s.ppu.dotsRemaining - (4 * n : Nat) ≤ modeBudget s.ppu.mode; omega
  obtain ⟨u, hu, k7, km, k2, kd, kb, kv, kw⟩ := key
  have := ppuAdvance_short s n (by rw [hu]; exact kd)
  rw [this, hu]
  by_cases hle : u.ppu.dotsRemaining ≤ 0
  · rw [if_pos hle]; exact ppuOk_transition u k7 k2 kd hle kv
  · rw [if_neg hle]; exact ⟨k7, km, k2, by omega, kb, kv, kw⟩

theorem storesOk_transition (s : State) (h : s.StoresOk) : s.ppuTransition.StoresOk := by
  have hf : storeWf blankLine s.ppuTransition.frame = true ∧ (∀ l ∈ s.ppuTransition.frame, l.1 < Config.visibleLines ∧ l.2.length = Config.screenWidth) := by
    by_cases hm : s.ppu.mode = .draw
    · obtain ⟨w, q, -, ht⟩ := ppuTransition_draw s hm
      have : s.ppuTransition.frame = (s.renderLine s.ppu.ly.toNat).frame := by rw [ht]
      rw [this]
      by_cases hl : s.ppu.ly.toNat < 144
      · rw [renderLine_eq s _ hl]
        refine ⟨storeWf_write _ _ h.2.2.2.1, fun l hl' => ?_⟩
        rcases mem_storeWrite hl' with h' | h'
        · exact h.2.2.2.2.2 l h'
        · rw [h']; exact ⟨hl, by simp [State.lineShades]⟩
      · have : s.renderLine s.ppu.ly.toNat = s := if_neg hl
        rw [this]; exact ⟨h.2.2.2.1, h.2.2.2.2.2⟩
    · have : s.ppuTransition.frame = s.frame := by
        cases hmd : s.ppu.mode
        case draw => exact absurd hmd hm
        case oamScan => obtain ⟨w, -, h⟩ := ppuTransition_oamScan s hmd; rw [h]
        case vblank => obtain ⟨w, q, -, h⟩ := ppuTransition_vblank s hmd; rw [h]
        case hblank =>
          by_cases hl : s.ppu.ly = 143
          · obtain ⟨w, q, -, -, h⟩ := ppuTransition_lastLine s hmd hl; rw [h]
          · obtain ⟨w, q, -, h⟩ := ppuTransition_hblank s hmd hl; rw [h]
      rw [this]; exact ⟨h.2.2.2.1, h.2.2.2.2.2⟩
  have ho := ppuTransition_only s
  simp only at ho
  obtain ⟨h1, h2, h3, h4, h5, h6⟩ := h
  refine ⟨by rw [ho]; exact h1, by rw [ho]; exact h2, by rw [ho]; exact h3, hf.1, by rw [ho]; exact h5, hf.2⟩

theorem storesOk_loop (f : Nat) : ∀ s : State, s.StoresOk → (State.ppuLoop f s).StoresOk := by
  induction f with
  | zero => intro s h; exact h
  | succ f ih =>
    intro s h
    simp only [State.ppuLoop]
    split
    · exact ih _ (storesOk_transition s h)
    · exact h

theorem storesOk_spendDots (s : State) (n : Nat) (h : s.StoresOk) : (s.spendDots n).StoresOk := by
  by_cases hvb : s.ppu.mode = .vblank
  · obtain ⟨q, w, e, a1, a2⟩ := setLy_only
        { s with ppu := { s.ppu with
            dotsRemaining := s.ppu.dotsRemaining - (4 * n : Nat), vblankDots := s.ppu.vblankDots + 4 * n } }
        (vblankLy (s.ppu.vblankDots + 4 * n))
    rw [spendDots_vblank s n hvb, e]; exact h
  · rw [spendDots_visible s n hvb]; exact h

theorem storesOk_advance (s : State) (n : Nat) (h : s.StoresOk) : (s.ppuAdvance n).StoresOk :=
  storesOk_loop _ _ (storesOk_spendDots s n h)

end Sys2Proof.Laws
end

