-- ==== Sys2Proof/Tests/Slice0.lean ====
section
/-! SUPPORT. The model's own tests: well-formedness, words written out from 30_encoding.md, the vectors of
95_test_vectors.md (one step each), the devices, and for every statement with hypotheses a witness that meets them. -/

namespace Sys2Proof.Tests

open Sys2Proof.Machine Sys2Proof.Bits

/-! ### Well-formedness -/

/-- The prefix alone is no instruction (30_encoding.md R174). -/
theorem test_prefix_ill_formed : Instr.prefixCb.wellFormed = false := by decide

theorem test_nop_well_formed : Instr.nop.wellFormed = true := by decide

/-! ### Decoding: words written out bit by bit (30_encoding.md R160 to R178) -/

/-- `01 ddd sss`, ddd = B, sss = (HL) (R163, R175). -/
theorem test_decode_ld_r_r : decode [0b01_000_110] = .ok (.ldBAtHl, []) := rfl

/-- `00 ddd 110 n`, ddd = (HL). -/
theorem test_decode_ld_r_n : decode [0b00_110_110, 0x80] = .ok (.ldAtHlN8 0x80, []) := rfl

/-- `00 rr 0001 lo hi`, rr = SP (R164, R171). -/
theorem test_decode_ld_rr_n16 : decode [0b00_11_0001, 0xFE, 0xFF] = .ok (.ldSpN16 0xFFFE, []) := rfl

/-- `00 mm 1010`, mm = HL- (R167). -/
theorem test_decode_ld_a_ind : decode [0b00_11_1010] = .ok (.ldAAtHlDec, []) := rfl

/-- `00 mm 0010`, mm = HL+ (R167). -/
theorem test_decode_ld_ind_a : decode [0b00_10_0010] = .ok (.ldAtHlIncA, []) := rfl

/-- `1110 0000 n` and `1111 0010` (R172). -/
theorem test_decode_ldh :
    decode [0b1110_0000, 0x44] = .ok (.ldhAtA8A 0x44, []) ∧ decode [0b1111_0010] = .ok (.ldhAAtC, []) := ⟨rfl, rfl⟩

/-- `11 qq 0101` with qq = AF and `11 qq 0001` with qq = DE (R165). -/
theorem test_decode_push_pop :
    decode [0b11_11_0101] = .ok (.pushAf, []) ∧ decode [0b11_01_0001] = .ok (.popDe, []) := ⟨rfl, rfl⟩

/-- `10 ooo sss` with ooo = SBC and `11 ooo 110 n` with ooo = CP (R168). -/
theorem test_decode_alu :
    decode [0b10_011_101] = .ok (.sbcAL, []) ∧ decode [0b11_111_110, 0x40] = .ok (.cpN8 0x40, []) := ⟨rfl, rfl⟩

/-- `00 ddd 100` with ddd = A, `00 ddd 101` with ddd = (HL). -/
theorem test_decode_inc_dec :
    decode [0b00_111_100] = .ok (.incA, []) ∧ decode [0b00_110_101] = .ok (.decAtHl, []) := ⟨rfl, rfl⟩

/-- `00 rr 1001`, `00 rr 0011`, `00 rr 1011` (R164). -/
theorem test_decode_alu16 :
    decode [0b00_01_1001] = .ok (.addHlDe, []) ∧ decode [0b00_10_0011] = .ok (.incHl, []) ∧
    decode [0b00_11_1011] = .ok (.decSp, []) := ⟨rfl, rfl, rfl⟩

/-- `00 ttt 111` (R169): RRA and CPL. -/
theorem test_decode_accumulator :
    decode [0b00_011_111] = .ok (.rra, []) ∧ decode [0b00_101_111] = .ok (.cpl, []) := ⟨rfl, rfl⟩

/-- `11001011`, then `00 ttt rrr`, ttt = SRL, rrr = (HL) (R170). -/
theorem test_decode_shift : decode [0b1100_1011, 0b00_111_110] = .ok (.srlAtHl, []) := rfl

/-- `11001011`, then `01 bbb rrr`, `10 bbb rrr`, `11 bbb rrr` (R170). -/
theorem test_decode_bits :
    decode [0b1100_1011, 0b01_011_110] = .ok (.bit3AtHl, []) ∧ decode [0b1100_1011, 0b10_111_000] = .ok (.res7B, []) ∧
    decode [0b1100_1011, 0b11_000_111] = .ok (.set0A, []) := ⟨rfl, rfl, rfl⟩

/-- `110 cc 010 lo hi`, `001 cc 000 e`, `110 cc 100 lo hi`, `110 cc 000` (R166). -/
theorem test_decode_conditional :
    decode [0b110_10_010, 0x34, 0x12] = .ok (.jpNcA16 0x1234, []) ∧
    decode [0b001_01_000, 0xFE] = .ok (.jrZE8 0xFE, []) ∧
    decode [0b110_11_100, 0x00, 0xC2] = .ok (.callCA16 0xC200, []) ∧ decode [0b110_00_000] = .ok (.retNz, []) :=
  ⟨rfl, rfl, rfl, rfl⟩

/-- `11 yyy 111`: RST 0x28. -/
theorem test_decode_rst : decode [0b11_101_111] = .ok (.rst28, []) := rfl

/-- STOP has two bytes; the byte after it is fetched and skipped (R178, 46_system.md R412). -/
theorem test_decode_stop : decode [0b0001_0000, 0x55, 0x76] = .ok (.stop 0x55, [0x76]) := rfl

/-- An unassigned opcode is an instruction of one byte (R178). -/
theorem test_decode_unassigned : decode [0b1110_1101, 0x76] = .ok (.unassignedED, [0x76]) := rfl

/-- A list that ends inside an instruction holds none. -/
theorem test_decode_truncated : decode [0xC3, 0x00] = .error (.truncated 0xC3) := rfl

/-- A word of the table: an unprefixed row's byte, and an extended row's two bytes (R184). -/
theorem test_decodeTableWord :
    decodeTableWord 8 0x41 = some .ldBC ∧ decodeTableWord 16 0xCB37 = some .swapA ∧
    decodeTableWord 16 0xCBCB = some .set1E := ⟨rfl, rfl, rfl⟩

/-! ### Vectors of 95_test_vectors.md -/

/-- The base state of the instruction vectors. -/
def base : State := { State.reset with cpu := { Cpu.reset with pc := 0xC000 } }

/-- A memory with an instruction at 0xC000. -/
def code (bytes : List Byte) : List Host.Cell := Memory.writeList [] 0xC000 bytes

/-- One `step()` of the CPU from s gives a next state in which f holds. -/
def after (s : State) (f : State → Bool) : Bool :=
  match cpuStep s with
  | .next t => f t
  | _ => false

/-- V-LD-1: LD B, C. -/
theorem test_ld_b_c : after { base with cpu := { base.cpu with c := 0x13 }, mem := code [0x41] }
    (fun t => t.cpu.b == 0x13 && t.cpu.pc == 0xC001 && t.cost == 1) = true := by decide

/-- V-LD-2: LD (HL), n8. -/
theorem test_ld_atHl_n8 : after { base with
      cpu := { base.cpu with h := 0xC1, l := 0x00 }
      mem := code [0x36, 0x5A] }
    (fun t => t.cpu.pc == 0xC002 && t.busRead 0xC100 == 0x5A && t.cost == 3) = true := by decide

/-- V-LD-3: LD A, (HL+). -/
theorem test_ld_a_hlInc_wraps : after { base with
      cpu := { base.cpu with h := 0xFF, l := 0xFF }
      irq := { base.irq with ieReg := 0x15 }
      mem := code [0x2A] }
    (fun t => t.cpu.a == 0x15 && t.cpu.h == 0x00 && t.cpu.l == 0x00 && t.cpu.pc == 0xC001 &&
      t.cost == 2) = true := by decide

/-- V-LD-4: LD (HL-), A. -/
theorem test_ld_hlDec_a_to_rom : after { base with
      cpu := { base.cpu with h := 0x00, l := 0x00, a := 0x77 }
      mem := code [0x32] }
    (fun t => t.cpu.h == 0xFF && t.cpu.l == 0xFF && t.cpu.pc == 0xC001 && t.cost == 2) = true := by decide

/-- V-LD-6: LD (a16), SP. -/
theorem test_ld_a16_sp_at_the_top : after { base with
      cpu := { base.cpu with sp := 0x1234 }
      mem := code [0x08, 0xFF, 0xFF] }
    (fun t => t.cpu.pc == 0xC003 && t.irq.ieReg == 0x34 && t.cost == 5) = true := by decide

/-- V-LD-8: LDH A, (C). -/
theorem test_ldh_a_c_reads_ly : after { base with
      cpu := { base.cpu with c := 0x44 }
      ppu := { base.ppu with ly := 144 }
      mem := code [0xF2] }
    (fun t => t.cpu.a == 0x90 && t.cpu.pc == 0xC001 && t.cost == 2) = true := by decide

/-- V-LD-9: POP AF. -/
theorem test_pop_af_drops_low_nibble : after { base with
      cpu := { base.cpu with sp := 0xC100 }
      mem := Memory.write (Memory.write (code [0xF1]) 0xC100 0xFF) 0xC101 0x12 }
    (fun t => t.cpu.a == 0x12 && t.cpu.f == 0xF0 && t.cpu.sp == 0xC102 && t.cpu.pc == 0xC001 &&
      t.cost == 3) = true := by decide

/-- V-LD-10: PUSH BC. -/
theorem test_push_bc_high_first : after { base with
      cpu := { base.cpu with b := 0x12, c := 0x34 }
      mem := code [0xC5] }
    (fun t => t.cpu.sp == 0xFFFC && t.cpu.pc == 0xC001 && t.busRead 0xFFFC == 0x34 && t.busRead 0xFFFD == 0x12 &&
      t.cost == 4) = true := by decide

/-- V-LD-11: LD HL, SP+e8. -/
theorem test_ld_hl_sp_e8_flags : after { base with
      cpu := { base.cpu with sp := 0x00FF, f := 0x00 }
      mem := code [0xF8, 0x01] }
    (fun t => t.cpu.f == 0x30 && t.cpu.l == 0x00 && t.cpu.pc == 0xC002 && t.cost == 3) = true := by decide

/-- V-LD-12: LD HL, SP+e8. -/
theorem test_ld_hl_sp_e8_negative : after { base with
      cpu := { base.cpu with sp := 0x0000, f := 0xF0 }
      mem := code [0xF8, 0xFF] }
    (fun t => t.cpu.f == 0x00 && t.cpu.h == 0xFF && t.cpu.l == 0xFF && t.cpu.pc == 0xC002 &&
      t.cost == 3) = true := by decide

/-- V-LD-13: LD SP, HL. -/
theorem test_ld_sp_hl : after { base with
      cpu := { base.cpu with h := 0xC1, l := 0x23 }
      mem := code [0xF9] }
    (fun t => t.cpu.sp == 0xC123 && t.cpu.pc == 0xC001 && t.cost == 2) = true := by decide

/-- V-LD-14: LD (a16), A. -/
theorem test_ld_a16_a_unmapped : after { base with
      cpu := { base.cpu with a := 0x55 }
      mem := code [0xEA, 0x00, 0xE0] }
    (fun t => t.cpu.pc == 0xC003 && t.cost == 4) = true := by decide

/-- V-LD-15: LD A, (a16). -/
theorem test_ld_a_a16_unmapped : after { base with
      cpu := { base.cpu with a := 0x55 }
      mem := code [0xFA, 0x00, 0xE0] }
    (fun t => t.cpu.a == 0x00 && t.cpu.pc == 0xC003 && t.cost == 4) = true := by decide

/-- V-LD-16: LD A, (DE). -/
theorem test_ld_a_de : after { base with
      cpu := { base.cpu with d := 0xC2, e := 0x00 }
      mem := Memory.write (code [0x1A]) 0xC200 0x99 }
    (fun t => t.cpu.a == 0x99 && t.cpu.pc == 0xC001 && t.cost == 2) = true := by decide

/-- V-LD-17: LD (DE), A. -/
theorem test_ld_de_a : after { base with
      cpu := { base.cpu with d := 0xC2, e := 0x00, a := 0x99 }
      mem := code [0x12] }
    (fun t => t.cpu.pc == 0xC001 && t.busRead 0xC200 == 0x99 && t.cost == 2) = true := by decide

/-- V-LD-18: LD BC, n16. -/
theorem test_ld_bc_n16 : after { base with mem := code [0x01, 0x34, 0x12] }
    (fun t => t.cpu.b == 0x12 && t.cpu.c == 0x34 && t.cpu.pc == 0xC003 && t.cost == 3) = true := by decide

/-- V-LD-19: LDH (C), A. -/
theorem test_ldh_c_a_writes_stat : after { base with
      cpu := { base.cpu with c := 0x41, a := 0xFF }
      mem := code [0xE2] }
    (fun t => t.cpu.pc == 0xC001 && t.ppu.stat == 0x7E && t.cost == 2) = true := by decide

/-- V-LD-20: LDH A, (a8). -/
theorem test_ldh_a_a8_reads_stat : after { base with
      ppu := { base.ppu with stat := 0xC5 }
      mem := code [0xF0, 0x41] }
    (fun t => t.cpu.a == 0x45 && t.cpu.pc == 0xC002 && t.cost == 3) = true := by decide

/-- V-LD-21: LD A, (HL-). -/
theorem test_ld_a_hlDec_reads_itself : after { base with
      cpu := { base.cpu with h := 0xC0, l := 0x00 }
      mem := code [0x3A] }
    (fun t => t.cpu.a == 0x3A && t.cpu.h == 0xBF && t.cpu.l == 0xFF && t.cpu.pc == 0xC001 &&
      t.cost == 2) = true := by decide

/-- V-ALU8-1: ADD A, B. -/
theorem test_add_a_b : after { base with
      cpu := { base.cpu with a := 0x3A, b := 0xC6, f := 0x00 }
      mem := code [0x80] }
    (fun t => t.cpu.a == 0x00 && t.cpu.f == 0xB0 && t.cpu.pc == 0xC001 && t.cost == 1) = true := by decide

/-- V-ALU8-2: ADC A, B. -/
theorem test_adc_a_b_carry_in : after { base with
      cpu := { base.cpu with a := 0xFF, b := 0xFF, f := 0x10 }
      mem := code [0x88] }
    (fun t => t.cpu.f == 0x30 && t.cpu.pc == 0xC001 && t.cost == 1) = true := by decide

/-- V-ALU8-4: SUB B. -/
theorem test_sub_b_zero : after { base with
      cpu := { base.cpu with a := 0x3E, b := 0x3E, f := 0x00 }
      mem := code [0x90] }
    (fun t => t.cpu.a == 0x00 && t.cpu.f == 0xC0 && t.cpu.pc == 0xC001 && t.cost == 1) = true := by decide

/-- V-ALU8-5: SBC A, B. -/
theorem test_sbc_a_b_borrow_in : after { base with
      cpu := { base.cpu with a := 0x00, b := 0xFF, f := 0x10 }
      mem := code [0x98] }
    (fun t => t.cpu.f == 0xF0 && t.cpu.pc == 0xC001 && t.cost == 1) = true := by decide

/-- V-ALU8-7: CP n8. -/
theorem test_cp_n8 : after { base with
      cpu := { base.cpu with a := 0x3C, f := 0x00 }
      mem := code [0xFE, 0x40] }
    (fun t => t.cpu.f == 0x50 && t.cpu.pc == 0xC002 && t.cost == 2) = true := by decide

/-- V-ALU8-9: AND B. -/
theorem test_and_b : after { base with
      cpu := { base.cpu with a := 0xF0, b := 0x0F, f := 0x00 }
      mem := code [0xA0] }
    (fun t => t.cpu.a == 0x00 && t.cpu.f == 0xA0 && t.cpu.pc == 0xC001 && t.cost == 1) = true := by decide

/-- V-ALU8-11: XOR A. -/
theorem test_xor_a : after { base with
      cpu := { base.cpu with a := 0x5A, f := 0x70 }
      mem := code [0xAF] }
    (fun t => t.cpu.a == 0x00 && t.cpu.f == 0x80 && t.cpu.pc == 0xC001 && t.cost == 1) = true := by decide

/-- V-ALU8-12: OR C. -/
theorem test_or_c : after { base with
      cpu := { base.cpu with a := 0x00, c := 0x13, f := 0xF0 }
      mem := code [0xB1] }
    (fun t => t.cpu.a == 0x13 && t.cpu.f == 0x00 && t.cpu.pc == 0xC001 && t.cost == 1) = true := by decide

/-- V-ALU8-13: INC A. -/
theorem test_inc_a_wraps : after { base with
      cpu := { base.cpu with a := 0xFF, f := 0x10 }
      mem := code [0x3C] }
    (fun t => t.cpu.a == 0x00 && t.cpu.f == 0xB0 && t.cpu.pc == 0xC001 && t.cost == 1) = true := by decide

/-- V-ALU8-14: DEC B. -/
theorem test_dec_b_half_borrow : after { base with
      cpu := { base.cpu with b := 0x10, f := 0x00 }
      mem := code [0x05] }
    (fun t => t.cpu.f == 0x60 && t.cpu.b == 0x0F && t.cpu.pc == 0xC001 && t.cost == 1) = true := by decide

/-- V-ALU8-16: INC (HL). -/
theorem test_inc_atHl : after { base with
      cpu := { base.cpu with h := 0xC1, l := 0x00, f := 0x00 }
      mem := Memory.write (code [0x34]) 0xC100 0x0F }
    (fun t => t.cpu.f == 0x20 && t.cpu.pc == 0xC001 && t.busRead 0xC100 == 0x10 && t.cost == 3) = true := by decide

/-- V-ALU8-17: DEC (HL). -/
theorem test_dec_atHl_wraps : after { base with
      cpu := { base.cpu with h := 0xC1, l := 0x00, f := 0x00 }
      mem := Memory.write (code [0x35]) 0xC100 0x00 }
    (fun t => t.cpu.f == 0x60 && t.cpu.pc == 0xC001 && t.busRead 0xC100 == 0xFF && t.cost == 3) = true := by decide

/-- V-ALU8-20: DAA. -/
theorem test_daa_after_subtraction : after { base with
      cpu := { base.cpu with a := 0x0F, f := 0x60 }
      mem := code [0x27] }
    (fun t => t.cpu.a == 0x09 && t.cpu.f == 0x40 && t.cpu.pc == 0xC001 && t.cost == 1) = true := by decide

/-- V-ALU8-21: DAA. -/
theorem test_daa_with_both_carries : after { base with
      cpu := { base.cpu with a := 0x00, f := 0x30 }
      mem := code [0x27] }
    (fun t => t.cpu.a == 0x66 && t.cpu.f == 0x10 && t.cpu.pc == 0xC001 && t.cost == 1) = true := by decide

/-- V-ALU8-22: CPL. -/
theorem test_cpl : after { base with
      cpu := { base.cpu with a := 0x35, f := 0x00 }
      mem := code [0x2F] }
    (fun t => t.cpu.a == 0xCA && t.cpu.f == 0x60 && t.cpu.pc == 0xC001 && t.cost == 1) = true := by decide

/-- V-ALU8-23: SCF. -/
theorem test_scf : after { base with cpu := { base.cpu with f := 0xE0 }, mem := code [0x37] }
    (fun t => t.cpu.f == 0x90 && t.cpu.pc == 0xC001 && t.cost == 1) = true := by decide

/-- V-ALU8-24: CCF. -/
theorem test_ccf : after { base with cpu := { base.cpu with f := 0x90 }, mem := code [0x3F] }
    (fun t => t.cpu.f == 0x80 && t.cpu.pc == 0xC001 && t.cost == 1) = true := by decide

/-- V-ALU16-1: ADD HL, BC. -/
theorem test_add_hl_bc_half_carry : after { base with
      cpu := { base.cpu with h := 0x0F, l := 0xFF, b := 0x00, c := 0x01, f := 0x80 }
      mem := code [0x09] }
    (fun t => t.cpu.f == 0xA0 && t.cpu.h == 0x10 && t.cpu.l == 0x00 && t.cpu.pc == 0xC001 &&
      t.cost == 2) = true := by decide

/-- V-ALU16-2: ADD HL, HL. -/
theorem test_add_hl_hl_keeps_z : after { base with
      cpu := { base.cpu with h := 0x80, l := 0x00, f := 0x00 }
      mem := code [0x29] }
    (fun t => t.cpu.f == 0x10 && t.cpu.h == 0x00 && t.cpu.pc == 0xC001 && t.cost == 2) = true := by decide

/-- V-ALU16-4: INC BC. -/
theorem test_inc_bc_wraps : after { base with
      cpu := { base.cpu with b := 0xFF, c := 0xFF, f := 0x00 }
      mem := code [0x03] }
    (fun t => t.cpu.b == 0x00 && t.cpu.c == 0x00 && t.cpu.pc == 0xC001 && t.cpu.f == 0x00 &&
      t.cost == 2) = true := by decide

/-- V-ALU16-5: DEC SP. -/
theorem test_dec_sp_wraps : after { base with
      cpu := { base.cpu with sp := 0x0000, f := 0x00 }
      mem := code [0x3B] }
    (fun t => t.cpu.sp == 0xFFFF && t.cpu.pc == 0xC001 && t.cpu.f == 0x00 && t.cost == 2) = true := by decide

/-- V-ALU16-7: ADD SP, e8. -/
theorem test_add_sp_e8_negative : after { base with
      cpu := { base.cpu with sp := 0x0000, f := 0x00 }
      mem := code [0xE8, 0x80] }
    (fun t => t.cpu.sp == 0xFF80 && t.cpu.pc == 0xC002 && t.cpu.f == 0x00 && t.cost == 4) = true := by decide

/-- V-ALU16-8: ADD SP, e8. -/
theorem test_add_sp_e8_flags : after { base with
      cpu := { base.cpu with sp := 0x0001, f := 0x00 }
      mem := code [0xE8, 0xFF] }
    (fun t => t.cpu.f == 0x30 && t.cpu.sp == 0x0000 && t.cpu.pc == 0xC002 && t.cost == 4) = true := by decide

/-- V-ROT-1: RLCA. -/
theorem test_rlca_clears_z : after { base with
      cpu := { base.cpu with a := 0x80, f := 0x80 }
      mem := code [0x07] }
    (fun t => t.cpu.a == 0x01 && t.cpu.f == 0x10 && t.cpu.pc == 0xC001 && t.cost == 1) = true := by decide

/-- V-ROT-2: RLA. -/
theorem test_rla : after { base with
      cpu := { base.cpu with a := 0x80, f := 0x00 }
      mem := code [0x17] }
    (fun t => t.cpu.a == 0x00 && t.cpu.f == 0x10 && t.cpu.pc == 0xC001 && t.cost == 1) = true := by decide

/-- V-ROT-3: RRCA. -/
theorem test_rrca : after { base with
      cpu := { base.cpu with a := 0x01, f := 0x00 }
      mem := code [0x0F] }
    (fun t => t.cpu.a == 0x80 && t.cpu.f == 0x10 && t.cpu.pc == 0xC001 && t.cost == 1) = true := by decide

/-- V-ROT-4: RRA. -/
theorem test_rra : after { base with
      cpu := { base.cpu with a := 0x01, f := 0x00 }
      mem := code [0x1F] }
    (fun t => t.cpu.a == 0x00 && t.cpu.f == 0x10 && t.cpu.pc == 0xC001 && t.cost == 1) = true := by decide

/-- V-ROT-5: RLC B. -/
theorem test_rlc_b : after { base with
      cpu := { base.cpu with b := 0x80, f := 0x00 }
      mem := code [0xCB, 0x00] }
    (fun t => t.cpu.f == 0x10 && t.cpu.b == 0x01 && t.cpu.pc == 0xC002 && t.cost == 2) = true := by decide

/-- V-ROT-6: RL B. -/
theorem test_rl_b_sets_z : after { base with
      cpu := { base.cpu with b := 0x80, f := 0x00 }
      mem := code [0xCB, 0x10] }
    (fun t => t.cpu.f == 0x90 && t.cpu.b == 0x00 && t.cpu.pc == 0xC002 && t.cost == 2) = true := by decide

/-- V-ROT-7: RR C. -/
theorem test_rr_c : after { base with
      cpu := { base.cpu with c := 0x01, f := 0x10 }
      mem := code [0xCB, 0x19] }
    (fun t => t.cpu.c == 0x80 && t.cpu.pc == 0xC002 && t.cpu.f == 0x10 && t.cost == 2) = true := by decide

/-- V-ROT-8: SLA A. -/
theorem test_sla_a : after { base with
      cpu := { base.cpu with a := 0xFF, f := 0x00 }
      mem := code [0xCB, 0x27] }
    (fun t => t.cpu.a == 0xFE && t.cpu.f == 0x10 && t.cpu.pc == 0xC002 && t.cost == 2) = true := by decide

/-- V-ROT-9: SRA A. -/
theorem test_sra_a : after { base with
      cpu := { base.cpu with a := 0x81, f := 0x00 }
      mem := code [0xCB, 0x2F] }
    (fun t => t.cpu.a == 0xC0 && t.cpu.f == 0x10 && t.cpu.pc == 0xC002 && t.cost == 2) = true := by decide

/-- V-ROT-10: SRL A. -/
theorem test_srl_a : after { base with
      cpu := { base.cpu with a := 0x01, f := 0x00 }
      mem := code [0xCB, 0x3F] }
    (fun t => t.cpu.a == 0x00 && t.cpu.f == 0x90 && t.cpu.pc == 0xC002 && t.cost == 2) = true := by decide

/-- V-ROT-11: SWAP A. -/
theorem test_swap_a : after { base with
      cpu := { base.cpu with a := 0xF0, f := 0x10 }
      mem := code [0xCB, 0x37] }
    (fun t => t.cpu.a == 0x0F && t.cpu.f == 0x00 && t.cpu.pc == 0xC002 && t.cost == 2) = true := by decide

/-- V-ROT-14: RRC (HL). -/
theorem test_rrc_atHl : after { base with
      cpu := { base.cpu with h := 0xC1, l := 0x00, f := 0x00 }
      mem := Memory.write (code [0xCB, 0x0E]) 0xC100 0x01 }
    (fun t => t.cpu.f == 0x10 && t.cpu.pc == 0xC002 && t.busRead 0xC100 == 0x80 && t.cost == 4) = true := by decide

/-- V-BIT-1: BIT 7, H. -/
theorem test_bit_7_h : after { base with
      cpu := { base.cpu with h := 0x80, f := 0x10 }
      mem := code [0xCB, 0x7C] }
    (fun t => t.cpu.f == 0x30 && t.cpu.pc == 0xC002 && t.cost == 2) = true := by decide

/-- V-BIT-3: BIT 3, (HL). -/
theorem test_bit_3_atHl : after { base with
      cpu := { base.cpu with h := 0xC1, l := 0x00, f := 0xC0 }
      mem := Memory.write (code [0xCB, 0x5E]) 0xC100 0x08 }
    (fun t => t.cpu.f == 0x20 && t.cpu.pc == 0xC002 && t.cost == 3) = true := by decide

/-- V-BIT-4: RES 7, A. -/
theorem test_res_7_a : after { base with cpu := { base.cpu with a := 0xFF }, mem := code [0xCB, 0xBF] }
    (fun t => t.cpu.a == 0x7F && t.cpu.pc == 0xC002 && t.cost == 2) = true := by decide

/-- V-BIT-5: SET 0, (HL). -/
theorem test_set_0_atHl : after { base with
      cpu := { base.cpu with h := 0xC1, l := 0x00 }
      mem := Memory.write (code [0xCB, 0xC6]) 0xC100 0x00 }
    (fun t => t.cpu.pc == 0xC002 && t.busRead 0xC100 == 0x01 && t.cost == 4) = true := by decide

/-- V-BIT-6: SET 1, E. -/
theorem test_set_1_e : after { base with cpu := { base.cpu with e := 0x00 }, mem := code [0xCB, 0xCB] }
    (fun t => t.cpu.e == 0x02 && t.cpu.pc == 0xC002 && t.cost == 2) = true := by decide

/-- V-CTL-2: JP HL. -/
theorem test_jp_hl : after { base with
      cpu := { base.cpu with h := 0xC2, l := 0x00 }
      mem := code [0xE9] }
    (fun t => t.cpu.pc == 0xC200 && t.cost == 1) = true := by decide

/-- V-CTL-3: JR e8. -/
theorem test_jr_back : after { base with mem := code [0x18, 0xFE] }
    (fun t => t.cpu.pc == 0xC000 && t.cost == 3) = true := by decide

/-- V-CTL-4: JR NZ, e8. -/
theorem test_jr_nz_not_taken : after { base with cpu := { base.cpu with f := 0x80 }, mem := code [0x20, 0x05] }
    (fun t => t.cpu.pc == 0xC002 && t.cpu.f == 0x80 && t.cost == 2) = true := by decide

/-- V-CTL-5: JR C, e8. -/
theorem test_jr_c_taken : after { base with cpu := { base.cpu with f := 0x10 }, mem := code [0x38, 0x80] }
    (fun t => t.cpu.pc == 0xBF82 && t.cpu.f == 0x10 && t.cost == 3) = true := by decide

/-- V-CTL-6: CALL a16. -/
theorem test_call_a16 : after { base with mem := code [0xCD, 0x00, 0xC2] }
    (fun t => t.cpu.sp == 0xFFFC && t.cpu.pc == 0xC200 && t.busRead 0xFFFC == 0x03 && t.busRead 0xFFFD == 0xC0 &&
      t.cost == 6) = true := by decide

/-- V-CTL-7: RET. -/
theorem test_ret : after { base with
      cpu := { base.cpu with sp := 0xC100 }
      mem := Memory.write (Memory.write (code [0xC9]) 0xC100 0x34) 0xC101 0x12 }
    (fun t => t.cpu.sp == 0xC102 && t.cpu.pc == 0x1234 && t.cost == 4) = true := by decide

/-- V-CTL-8: RET C. -/
theorem test_ret_c_taken : after { base with
      cpu := { base.cpu with sp := 0xC100, f := 0x10 }
      mem := Memory.write (Memory.write (code [0xD8]) 0xC100 0x34) 0xC101 0x12 }
    (fun t => t.cpu.sp == 0xC102 && t.cpu.pc == 0x1234 && t.cpu.f == 0x10 && t.cost == 5) = true := by decide

/-- V-CTL-9: RET C. -/
theorem test_ret_c_not_taken : after { base with
      cpu := { base.cpu with sp := 0xC100, f := 0x00 }
      mem := Memory.write (Memory.write (code [0xD8]) 0xC100 0x34) 0xC101 0x12 }
    (fun t => t.cpu.pc == 0xC001 && t.cpu.f == 0x00 && t.cost == 2) = true := by decide

/-- V-CTL-10: RETI. -/
theorem test_reti : after { base with
      cpu := { base.cpu with sp := 0xC100 }
      irq := { base.irq with ime := false }
      mem := Memory.write (Memory.write (code [0xD9]) 0xC100 0x34) 0xC101 0x12 }
    (fun t => t.cpu.sp == 0xC102 && t.cpu.pc == 0x1234 && t.irq.ime == true && t.cost == 4) = true := by decide

/-- V-CTL-11: RST 0x38. -/
theorem test_rst_38 : after { base with mem := code [0xFF] }
    (fun t => t.cpu.sp == 0xFFFC && t.cpu.pc == 0x0038 && t.busRead 0xFFFC == 0x01 && t.busRead 0xFFFD == 0xC0 &&
      t.cost == 4) = true := by decide

/-- V-CTL-12: CALL NZ, a16. -/
theorem test_call_nz_not_taken : after { base with
      cpu := { base.cpu with f := 0x80 }
      mem := code [0xC4, 0x00, 0xC2] }
    (fun t => t.cpu.pc == 0xC003 && t.cpu.f == 0x80 && t.cost == 3) = true := by decide

/-- V-CTL-13: JP C, a16. -/
theorem test_jp_c_taken : after { base with
      cpu := { base.cpu with f := 0x10 }
      mem := code [0xDA, 0x00, 0xC2] }
    (fun t => t.cpu.pc == 0xC200 && t.cpu.f == 0x10 && t.cost == 4) = true := by decide

/-- V-CTL-14: JP C, a16. -/
theorem test_jp_c_not_taken : after { base with
      cpu := { base.cpu with f := 0x00 }
      mem := code [0xDA, 0x00, 0xC2] }
    (fun t => t.cpu.pc == 0xC003 && t.cpu.f == 0x00 && t.cost == 3) = true := by decide

/-- V-CTL-15: CALL Z, a16. -/
theorem test_call_z_taken : after { base with
      cpu := { base.cpu with f := 0x80 }
      mem := code [0xCC, 0x00, 0xC2] }
    (fun t => t.cpu.sp == 0xFFFC && t.cpu.pc == 0xC200 && t.busRead 0xFFFC == 0x03 && t.busRead 0xFFFD == 0xC0 &&
      t.cpu.f == 0x80 && t.cost == 6) = true := by decide

/-- V-SYS-1: NOP. -/
theorem test_nop : after { base with mem := code [0x00] }
    (fun t => t.cpu.pc == 0xC001 && t.cost == 1) = true := by decide

/-- V-SYS-2: HALT. -/
theorem test_halt : after { base with
      irq := { base.irq with ime := false, ieReg := 0x00 }
      mem := code [0x76] }
    (fun t => t.cpu.pc == 0xC001 && t.irq.halted == true && t.cost == 1) = true := by decide

/-- V-SYS-3: HALT. -/
theorem test_halt_wakes_at_once : after { base with
      irq := { base.irq with ime := false, ieReg := 0x04, ifReg := 0x04 }
      mem := code [0x76] }
    (fun t => t.cpu.pc == 0xC001 && t.cost == 1) = true := by decide

/-- V-SYS-5: EI. -/
theorem test_ei_delay : after { base with
      irq := { base.irq with ime := false, ieReg := 0x01, ifReg := 0x01 }
      mem := code [0xFB, 0x00] }
    (fun t => t.cpu.pc == 0xC001 && t.irq.eiPending == true && t.cost == 1) = true := by decide

/-- V-SYS-7: DI. -/
theorem test_di : after { base with
      irq := { base.irq with ime := true, ieReg := 0x01, ifReg := 0x01 }
      mem := code [0xF3] }
    (fun t => t.cpu.pc == 0xC001 && t.irq.ime == false && t.cost == 1) = true := by decide

/-- V-SYS-9: STOP. -/
theorem test_stop : after { base with mem := code [0x10, 0x00] }
    (fun t => t.cpu.pc == 0xC002 && t.cost == 1) = true := by decide

/-- V-SYS-10: (unassigned). -/
theorem test_unassigned : after { base with mem := code [0xDD] }
    (fun t => t.cpu.pc == 0xC001 && t.cost == 1) = true := by decide

/-- V-INT-1: NOP. -/
theorem test_interrupt_priority : after { base with
      irq := { base.irq with ime := true, ieReg := 0x05, ifReg := 0x05 }
      mem := code [0x00] }
    (fun t => t.cpu.sp == 0xFFFC && t.cpu.pc == 0x0040 && t.irq.ime == false && t.irq.ifReg == 0x04 &&
      t.busRead 0xFFFC == 0x01 && t.busRead 0xFFFD == 0xC0 && t.cost == 6) = true := by decide

/-- V-INT-3: NOP. -/
theorem test_interrupt_push_over_ie : after { base with
      cpu := { base.cpu with sp := 0x0000 }
      irq := { base.irq with ime := true, ieReg := 0x01, ifReg := 0x01 }
      mem := code [0x00] }
    (fun t => t.cpu.sp == 0xFFFE && t.cpu.pc == 0x0040 && t.irq.ime == false && t.irq.ifReg == 0x00 &&
      t.irq.ieReg == 0xC0 && t.busRead 0xFFFE == 0x01 && t.cost == 6) = true := by decide

/-- V-INT-6: LDH (a8), A. -/
theorem test_if_write_seen_by_the_same_step : after { base with
      cpu := { base.cpu with a := 0x04 }
      irq := { base.irq with ime := true, ieReg := 0x04 }
      mem := code [0xE0, 0x0F] }
    (fun t => t.cpu.sp == 0xFFFC && t.cpu.pc == 0x0050 && t.irq.ime == false && t.busRead 0xFFFC == 0x02 &&
      t.busRead 0xFFFD == 0xC0 && t.cost == 8) = true := by decide

/-- V-INT-7: RETI. -/
theorem test_reti_then_interrupt : after { base with
      cpu := { base.cpu with sp := 0xC100 }
      irq := { base.irq with ime := false, ieReg := 0x01, ifReg := 0x01 }
      mem := Memory.write (Memory.write (code [0xD9]) 0xC100 0x00) 0xC101 0xC3 }
    (fun t => t.cpu.pc == 0x0040 && t.irq.ifReg == 0x00 && t.cost == 9) = true := by decide

/-! ### Devices (95_test_vectors.md) -/

/-- V-TIM-9: two ticks to the overflow, the reload and one tick more. -/
theorem test_timer_overflow :
    let t := State.timerAdvance { base with timer := { base.timer with tac := 0x06, tima := 0xFE, tma := 0x80 } } 48
    t.timer.tima = 0x81 ∧ t.timer.timaSub = 0 ∧ t.timer.divSub = 48 ∧ t.irq.ifReg = 0x04 := by decide

/-- V-TIM-6: a change of the period keeps tima_sub. -/
theorem test_timer_period_change :
    let t := State.timerAdvance { base with timer := { base.timer with tac := 0x05, timaSub := 200 } } 1
    t.timer.tima = 0x32 ∧ t.timer.timaSub = 1 := by decide +kernel

/-- V-TIM-7: a write to DIV clears DIV and its sub-counter only. -/
theorem test_div_write :
    State.busWrite { base with timer := { base.timer with div := 0x37, divSub := 50, tima := 0x10, timaSub := 3 } }
      0xFF04 0xAB = { base with timer := { base.timer with div := 0, divSub := 0, tima := 0x10, timaSub := 3 } } := by
  decide

/-- V-PPU-3: the overshoot carries over. -/
theorem test_ppu_overshoot :
    let t := (base.ppuAdvance 11).ppuAdvance 11
    t.ppu.mode = .draw ∧ t.ppu.dotsRemaining = 222 ∧ t.ppu.stat = 0x07 := by decide

/-- V-PPU-11: a write to LYC runs the coincidence check. -/
theorem test_lyc_write :
    let t := State.busWrite { base with ppu := { base.ppu with stat := 0x42 } } 0xFF45 0x00
    t.ppu.stat = 0x46 ∧ t.irq.ifReg = 0x02 := by decide

/-- V-PPU-14: the end of v-blank. -/
theorem test_vblank_end :
    let t := State.ppuAdvance { base with ppu := { base.ppu with
      mode := .vblank, dotsRemaining := 4, vblankDots := 4556, ly := 153, stat := 0x61 } } 1
    t.ppu.mode = .oamScan ∧ t.ppu.dotsRemaining = 80 ∧ t.ppu.ly = 0 ∧ t.ppu.stat = 0x66 ∧ t.irq.ifReg = 0x02 := by
  decide

/-- 60_exceptions.md R511: the end of line 143 enters v-blank, requests interrupt 0 and presents the frame. -/
theorem test_vblank_entry :
    let t := State.ppuAdvance { base with ppu := { base.ppu with mode := .hblank, dotsRemaining := 4, ly := 143 } } 1
    t.ppu.mode = .vblank ∧ t.ppu.ly = 144 ∧ t.irq.ifReg = 0x01 ∧ t.ppu.frameCount = 1 ∧
    t.presented = some { frameCount := 1, frame := [] } := by decide

/-- V-PPU-12: the STAT interrupt of h-blank (60_exceptions.md R512). -/
theorem test_hblank_stat_interrupt :
    let t := State.ppuTransition { base with ppu := { base.ppu with mode := .draw, dotsRemaining := 0, stat := 0x0B } }
    t.ppu.mode = .hblank ∧ t.ppu.stat = 0x08 ∧ t.irq.ifReg = 0x02 := by decide

/-- V-PPU-7: LY 145 after 456 dots of v-blank (60_exceptions.md R504). -/
theorem test_vblank_pacing :
    let t := State.ppuAdvance { base with ppu := { base.ppu with
      mode := .vblank, dotsRemaining := 4108, vblankDots := 452, ly := 144, stat := 0x01 } } 1
    t.ppu.mode = .vblank ∧ t.ppu.dotsRemaining = 4104 ∧ t.ppu.vblankDots = 456 ∧ t.ppu.ly = 145 := by decide

/-- An MBC1 cartridge with four banks, bank b starting with byte 0x10 + b (the image of V-MEM-4 to V-MEM-6). -/
def mbc1 (bank : BitVec 5) : State :=
  { base with cart := { base.cart with
      cartType := 0x01, romBank := bank, rom := [(0, 0x10), (0x4000, 0x11), (0x8000, 0x12), (0xC000, 0x13)] } }

/-- V-MEM-3 and V-MEM-2: the mask comes before the coercion of bank 0. -/
theorem test_bank_select :
    ((mbc1 3).busWrite 0x2ABC 0x40).cart.romBank = 1 ∧ ((mbc1 3).busWrite 0x3FFF 0x21).cart.romBank = 1 ∧
    ((mbc1 1).busWrite 0x2000 0x02).cart.romBank = 2 := by decide

/-- V-MEM-4, V-MEM-5 and V-MEM-6. -/
theorem test_bank_window :
    (mbc1 2).busRead 0x4000 = 0x12 ∧ (mbc1 1).busRead 0x0000 = 0x10 ∧ (mbc1 9).busRead 0x4000 = 0x00 := by decide

/-- V-MEM-13: OAM DMA, its first, second and last byte. -/
theorem test_oam_dma :
    let t := State.busWrite { base with mem := [(0xC001, 0x01), (0xC09F, 0x9F), (0xFE00, 0x77)] } 0xFF46 0xC0
    t.mem = [(0xC001, 0x01), (0xC09F, 0x9F), (0xFE01, 0x01), (0xFE9F, 0x9F)] ∧ t.ppu.dma = 0xC0 := by decide +kernel

/-- V-MEM-9 and V-MEM-10: echo RAM and 0xFEA0-0xFEFF are unmapped. -/
theorem test_unmapped :
    State.busRead { base with mem := [(0xC000, 0x77)] } 0xE000 = 0x00 ∧ base.busWrite 0xFEA0 0x55 = base := by decide

/-- V-JOY-4: both groups selected, A and Down pressed. -/
theorem test_joypad :
    let t := ((base.busWrite 0xFF00 0x00).applyButton ⟨.a, false⟩).applyButton ⟨.down, false⟩
    t.busRead 0xFF00 = 0xC6 ∧ t.irq.ifReg = 0x10 := by decide

/-- V-JOY-5: a press requests the interrupt whatever is selected. -/
theorem test_joypad_unselected :
    let t := (base.busWrite 0xFF00 0x30).applyButton ⟨.start, false⟩
    t.busRead 0xFF00 = 0xFF ∧ t.irq.ifReg = 0x10 := by decide

/-- A background tile line of the bytes 0x80, 0xC0: colour indexes 3, 2, 0 (60_exceptions.md R514, R516). -/
theorem test_background_line :
    let s := { base with mem := [(0x8000, 0x80), (0x8001, 0xC0)], ppu := { base.ppu with bgp := 0xE4 } }
    [s.pixel [] 0 0, s.pixel [] 0 1, s.pixel [] 0 2] = [3, 2, 0] := by decide

/-! ### Placing an instruction -/

/-- The first step from reset runs the placed instruction: INC B. -/
theorem test_withFetchWord :
    (match step (State.reset.withFetchWord 8 0x04) with
      | .next t => t.cpu.b == 0x01 && t.cpu.pc == 0x0101 && t.cost == 1
      | _ => false) = true := by decide

/-- And an extended row's: SWAP A. -/
theorem test_withFetchWord_extended :
    (match step (State.reset.withFetchWord 16 0xCB37) with
      | .next t => t.cpu.a == 0x10 && t.cpu.pc == 0x0102 && t.cost == 2
      | _ => false) = true := by decide

/-- The prefix arm itself fetches op2 and runs SWAP A (46_system.md R415). -/
theorem test_prefixCb :
    (match exec .prefixCb { base with mem := code [0x37] } with
      | .next t => t.cpu.a == 0x10 && t.cpu.pc == 0xC001 && t.cost == 2
      | _ => false) = true := by decide

/-! ### Witnesses: the hypotheses of each statement can be met -/

/-- `DecodeOfEncode`: an instruction with an immediate at its largest value. -/
theorem witness_DecodeOfEncode : (Instr.ldAtA16Sp 0xFFFF).wellFormed = true := by decide

/-- `EncodeOfDecode`. -/
theorem witness_EncodeOfDecode : decode [0x3E, 0xFF, 0x00] = .ok (.ldAN8 0xFF, [0x00]) := rfl

/-- `StepRunsDecodedInstruction`: INC B at the top of the address space. -/
theorem witness_StepRunsDecodedInstruction :
    let s := { base with cpu := { base.cpu with pc := 0xFFFE }, mem := [(0xFFFE, 0x04)] }
    s.irq.halted = false ∧
    decode [s.busRead s.cpu.pc, s.busRead (s.cpu.pc + 1), s.busRead (s.cpu.pc + 2)] = .ok (.incB, [0x00, 0x00]) ∧
    ∃ t, exec .incB (s.eiDelay.setPc (s.cpu.pc + BitVec.ofNat 16 (encode .incB).length)) = .next t :=
  ⟨rfl, rfl, _, rfl⟩

/-- A halted state with timer interrupts enabled and the requests of `requests`. -/
def halted (ime : Bool) (requests : Byte) : State :=
  { base with irq := { ime := ime, eiPending := false, halted := true, ifReg := requests, ieReg := 0x1F } }

/-- `HaltedStep`: its three clauses. -/
theorem witness_HaltedStep :
    let pending (s : State) := ((s.timerAdvance 1).irq.ieReg &&& (s.timerAdvance 1).irq.ifReg).extractLsb' 0 5
    (halted false 0xE0).irq.halted = true ∧ (halted false 0xE0).irq.eiPending = false ∧
    pending (halted false 0xE0) = 0 ∧
    (halted false 0x10).irq.ime = false ∧ pending (halted false 0x10) ≠ 0 ∧
    (halted true 0x01).irq.ime = true ∧ pending (halted true 0x01) ≠ 0 := by decide

/-- `EiTakesEffectAfterNextInstruction`. -/
theorem witness_EiTakesEffectAfterNextInstruction :
    let s := { base with mem := code [0xFB] }
    s.irq.halted = false ∧ s.irq.ime = false ∧ s.irq.eiPending = false ∧ s.busRead s.cpu.pc = 0xFB := by decide

/-- `LoadRegister`, `StoreAtHl`, `IncrementAndDecrement`, `RotatesAndShiftsOfRegister`, `ResetAndSetBit`: every
register is another operand than (HL). -/
theorem witness_register_operand :
    ∀ r ∈ [R8.b, R8.c, R8.d, R8.e, R8.h, R8.l, R8.a], r ≠ .atHl := by decide

/-- `PushStoresPair`: AF with the low nibble of F 0. -/
theorem witness_PushStoresPair : QQ.af = .af ∧ base.cpu.f.extractLsb' 0 4 = 0 := by decide

/-- `LogicalOperations`: each of its three operations. -/
theorem witness_LogicalOperations :
    ∀ op ∈ [AluOp.and, AluOp.xor, AluOp.or], op = .and ∨ op = .xor ∨ op = .or := by decide

/-- `DecimalAddition`: 99 and 99. -/
theorem witness_DecimalAddition :
    let s := { base with cpu := { base.cpu with a := 0x99, b := 0x99 } }
    (9 : Nat) < 10 ∧ s.cpu.a = BitVec.ofNat 8 (16 * 9 + 9) ∧ s.cpu.b = BitVec.ofNat 8 (16 * 9 + 9) := by decide

/-- `JumpInstructions`, `CallInstructions`, `Returns`: each condition holds in one of two states and not in the
other. -/
theorem witness_conditions :
    let clear := { base with cpu := { base.cpu with f := 0x00 } }
    let set := { base with cpu := { base.cpu with f := 0x90 } }
    CondHolds clear .nz ∧ ¬ CondHolds set .nz ∧ CondHolds set .z ∧ ¬ CondHolds clear .z ∧
    CondHolds clear .nc ∧ ¬ CondHolds set .nc ∧ CondHolds set .c ∧ ¬ CondHolds clear .c := by
  simp only [CondHolds]
  decide

/-- `StackRoundTrips`: the stack pointer at reset. -/
theorem witness_StackRoundTrips :
    Memory.wf base.mem = true ∧ (route (base.cpu.sp - 1)).isMemory = true ∧ (route (base.cpu.sp - 2)).isMemory = true ∧
    QQ.bc ≠ .af := by decide

/-- `InterruptControlWriters` and `RomIsReadOnly`: an instruction that is none of the writers completes, with the
boot ROM disabled and no bank controller. -/
theorem witness_InterruptControlWriters :
    (∃ t, exec .nop base = .next t) ∧ Instr.nop ≠ .di ∧ Instr.nop ≠ .ei ∧ Instr.nop ≠ .reti ∧ Instr.nop ≠ .halt ∧
    base.cart.disableBootrom = true ∧ base.cart.isMbc1 = false :=
  ⟨⟨_, rfl⟩, Instr.noConfusion, Instr.noConfusion, Instr.noConfusion, Instr.noConfusion, rfl, rfl⟩

/-- A state whose bytes at the edges of the read decoder's rows differ. -/
def edges : State :=
  { base with
    cart := { base.cart with rom := [(0, 1), (0x3FFF, 2), (0x4000, 3), (0x7FFF, 4)] }
    mem := [
      (0x8000, 5), (0xDFFF, 6), (0xFE00, 7), (0xFE9F, 8), (0xFF01, 9), (0xFF03, 10), (0xFF08, 11), (0xFF0E, 12),
      (0xFF10, 13), (0xFF3F, 14), (0xFF4C, 15), (0xFF4F, 16),
      (0xFF51, 17), (0xFF7F, 18), (0xFF80, 19), (0xFFFE, 20)]
    timer := { base.timer with div := 21, tima := 22, tma := 23, tac := 24 }
    irq := { base.irq with ifReg := 25, ieReg := 26 }
    ppu := { base.ppu with
      lcdc := 27, stat := 0x9C, scy := 29, scx := 30, ly := 31, lyc := 32, dma := 33, bgp := 34
      obp0 := 35, obp1 := 36, wy := 37, wx := 38 } }

/-- `ReadDecoder`: both ends of every range of 20_memory.md R112 are in it. -/
theorem witness_ReadDecoder_ranges :
    ([0x0000, 0x3FFF, 0x4000, 0x7FFF, 0x8000, 0xDFFF, 0xE000, 0xFDFF, 0xFE00, 0xFE9F, 0xFEA0, 0xFEFF].map edges.busRead
      = [1, 2, 3, 4, 5, 6, 0, 0, 7, 8, 0, 0]) ∧
    ([0xFF01, 0xFF03, 0xFF08, 0xFF0E, 0xFF10, 0xFF3F, 0xFF4C, 0xFF4F, 0xFF51, 0xFF7F, 0xFF80, 0xFFFE].map edges.busRead
      = [9, 10, 11, 12, 13, 14, 15, 16, 17, 18, 19, 20]) := by decide

/-- `ReadDecoder`: every single-address row of 20_memory.md R112. -/
theorem witness_ReadDecoder_registers :
    ([0xFF00, 0xFF04, 0xFF05, 0xFF06, 0xFF07, 0xFF0F, 0xFFFF, 0xFF50].map edges.busRead
      = [0xFF, 21, 22, 23, 24, 25, 26, 0]) ∧
    ([0xFF40, 0xFF41, 0xFF42, 0xFF43, 0xFF44, 0xFF45, 0xFF46, 0xFF47, 0xFF48, 0xFF49, 0xFF4A, 0xFF4B].map edges.busRead
      = [27, 0x1C, 29, 30, 31, 32, 33, 34, 35, 36, 37, 38]) := by decide

/-- `IgnoredWrites`: both ends of each of its ranges, and LY; in the third clause a cartridge without a bank
controller. -/
theorem witness_IgnoredWrites :
    (mbc1 1).busWrite 0xE000 0x02 = mbc1 1 ∧ (mbc1 1).busWrite 0xFDFF 0x02 = mbc1 1 ∧
    (mbc1 1).busWrite 0xFEA0 0x02 = mbc1 1 ∧ (mbc1 1).busWrite 0xFEFF 0x02 = mbc1 1 ∧
    (mbc1 1).busWrite 0x0000 0x02 = mbc1 1 ∧ (mbc1 1).busWrite 0x1FFF 0x02 = mbc1 1 ∧
    (mbc1 1).busWrite 0x4000 0x02 = mbc1 1 ∧ (mbc1 1).busWrite 0x7FFF 0x02 = mbc1 1 ∧
    (mbc1 1).busWrite 0xFF44 0x02 = mbc1 1 ∧
    base.cart.isMbc1 = false ∧ base.busWrite 0x2000 0x02 = base ∧ base.busWrite 0x3FFF 0x02 = base :=
  ⟨rfl, rfl, rfl, rfl, rfl, rfl, rfl, rfl, rfl, rfl, rfl, rfl⟩

/-- `IgnoredWrites`: its register rows, each with a byte that tells them apart; a store to DIV clears it. -/
theorem witness_IgnoredWrites_registers :
    (base.busWrite 0xFF05 0xA5).busRead 0xFF05 = 0xA5 ∧ (base.busWrite 0xFF06 0xA5).busRead 0xFF06 = 0xA5 ∧
    (base.busWrite 0xFF07 0xA5).busRead 0xFF07 = 0xA5 ∧ (base.busWrite 0xFF0F 0xA5).busRead 0xFF0F = 0xA5 ∧
    (base.busWrite 0xFF40 0xA5).busRead 0xFF40 = 0xA5 ∧ (base.busWrite 0xFF42 0xA5).busRead 0xFF42 = 0xA5 ∧
    (base.busWrite 0xFF43 0xA5).busRead 0xFF43 = 0xA5 ∧ (base.busWrite 0xFF47 0xA5).busRead 0xFF47 = 0xA5 ∧
    (base.busWrite 0xFF48 0xA5).busRead 0xFF48 = 0xA5 ∧ (base.busWrite 0xFF49 0xA5).busRead 0xFF49 = 0xA5 ∧
    (base.busWrite 0xFF4A 0xA5).busRead 0xFF4A = 0xA5 ∧ (base.busWrite 0xFF4B 0xA5).busRead 0xFF4B = 0xA5 ∧
    (base.busWrite 0xFFFF 0xA5).busRead 0xFFFF = 0xA5 ∧
    ({ base with timer := { base.timer with div := 7 } }.busWrite 0xFF04 0xA5).busRead 0xFF04 = 0 :=
  ⟨rfl, rfl, rfl, rfl, rfl, rfl, rfl, rfl, rfl, rfl, rfl, rfl, rfl, rfl⟩

/-- `IgnoredWrites`: both ends of each of its ranges of plain memory, which is canonical, and another address. -/
theorem witness_IgnoredWrites_memory :
    Memory.wf base.mem = true ∧ (0x8000 : Word) ≠ 0xDFFF ∧
    (base.busWrite 0x8000 0xA5).busRead 0x8000 = 0xA5 ∧ (base.busWrite 0xDFFF 0xA5).busRead 0xDFFF = 0xA5 ∧
    (base.busWrite 0xFE00 0xA5).busRead 0xFE00 = 0xA5 ∧ (base.busWrite 0xFE9F 0xA5).busRead 0xFE9F = 0xA5 ∧
    (base.busWrite 0xFF01 0xA5).busRead 0xFF01 = 0xA5 ∧ (base.busWrite 0xFF03 0xA5).busRead 0xFF03 = 0xA5 ∧
    (base.busWrite 0xFF08 0xA5).busRead 0xFF08 = 0xA5 ∧ (base.busWrite 0xFF0E 0xA5).busRead 0xFF0E = 0xA5 ∧
    (base.busWrite 0xFF10 0xA5).busRead 0xFF10 = 0xA5 ∧ (base.busWrite 0xFF3F 0xA5).busRead 0xFF3F = 0xA5 ∧
    (base.busWrite 0xFF4C 0xA5).busRead 0xFF4C = 0xA5 ∧ (base.busWrite 0xFF4F 0xA5).busRead 0xFF4F = 0xA5 ∧
    (base.busWrite 0xFF51 0xA5).busRead 0xFF51 = 0xA5 ∧ (base.busWrite 0xFF7F 0xA5).busRead 0xFF7F = 0xA5 ∧
    (base.busWrite 0xFF80 0xA5).busRead 0xFF80 = 0xA5 ∧ (base.busWrite 0xFFFE 0xA5).busRead 0xFFFE = 0xA5 :=
  ⟨rfl, by decide, rfl, rfl, rfl, rfl, rfl, rfl, rfl, rfl, rfl, rfl, rfl, rfl, rfl, rfl, rfl, rfl⟩

/-- `BankSelect`: both ends of the select's range and of the windows. -/
theorem witness_BankSelect :
    (mbc1 1).cart.isMbc1 = true ∧ ((mbc1 1).busWrite 0x2000 0xFF).cart.romBank = 31 ∧
    ((mbc1 1).busWrite 0x3FFF 0x00).cart.romBank = 1 ∧
    ((mbc1 1).busWrite 0x3FFF 0x03).busRead 0x4000 = 0x13 ∧ ((mbc1 1).busWrite 0x3FFF 0x03).busRead 0x7FFF = 0x00 ∧
    ((mbc1 1).busWrite 0x3FFF 0x03).busRead 0x0000 = 0x10 ∧ ((mbc1 1).busWrite 0x3FFF 0x03).busRead 0x3FFF = 0x00 := by
  decide

/-- `OamDmaCopies`: a canonical memory, and the ends of its ranges. -/
theorem witness_OamDmaCopies :
    Memory.wf edges.mem = true ∧ (edges.busWrite 0xFF46 0xFF).busRead 0xFE80 = 19 ∧
    (edges.busWrite 0xFF46 0xDF).busRead 0xFE9F = 0 ∧ (edges.busWrite 0xFF46 0x80).busRead 0xFE00 = 5 ∧
    (edges.busWrite 0xFF46 0x80).busRead 0xFDFF = 0 ∧ (edges.busWrite 0xFF46 0x80).busRead 0xFEA0 = 0 := by
  decide +kernel

/-- A state with the boot ROM in place over a cartridge. -/
def booting : State :=
  { base with cart := { base.cart with
      rom := [(0xFF, 0x50), (0x100, 7)], cartLow := [(0, 1)], disableBootrom := false } }

/-- `BootRomHandover`: both of its cases, and the ends of the overlay. -/
theorem witness_BootRomHandover :
    base.cart.disableBootrom = true ∧ booting.cart.disableBootrom = false ∧ Memory.wf booting.cart.rom = true ∧
    (booting.busWrite 0xFF50 0).cart.rom = [(0, 1), (0x100, 7)] := by decide +kernel

/-- `InterruptEntry`: the last vector. -/
theorem witness_InterruptEntry : (4 : Nat) < 5 ∧ (base.dispatch 4).cpu.pc = 0x0060 := by decide

/-- `InterruptEvaluation`: its three clauses, the lowest pending bit being the last there is in the third. -/
theorem witness_InterruptEvaluation :
    (base.irq.ime = false ∧ base.irq.halted = false) ∧
    (∀ k < 5, ((halted true 0xE0).irq.ieReg.getLsbD k && (halted true 0xE0).irq.ifReg.getLsbD k) = false) ∧
    ((halted false 0x01).irq.ifReg.getLsbD 0 = true ∧ (halted false 0x01).irq.ieReg.getLsbD 0 = true ∧
      (halted false 0x01).irq.ime = false) ∧
    ((halted true 0x10).irq.ifReg.getLsbD 4 = true ∧ (halted true 0x10).irq.ieReg.getLsbD 4 = true ∧
      (∀ j < 4, (halted true 0x10).irq.ifReg.getLsbD j = false) ∧ (halted true 0x10).irq.ime = true) := by decide

/-- A PPU at the end of a mode. -/
def endOf (m : Mode) (ly : Byte) : State :=
  { base with ppu := { base.ppu with mode := m, dotsRemaining := 0, ly := ly } }

/-- `PpuTransitions`: each mode's next one, on both sides of the last visible line. -/
theorem witness_PpuTransitions :
    (endOf .oamScan 0).ppuTransition.ppu.mode = .draw ∧ (endOf .hblank 142).ppuTransition.ppu.mode = .oamScan ∧
    (endOf .hblank 143).ppuTransition.ppu.mode = .vblank ∧ (endOf .vblank 153).ppuTransition.ppu.mode = .oamScan := by
  decide

/-- `VisibleLineTakes114Cycles`: its first and its last line. -/
theorem witness_VisibleLineTakes114Cycles :
    let s (ly : Byte) := { base with ppu := { base.ppu with ly := ly } }
    (s 0).ppu.mode = .oamScan ∧ (s 0).ppu.dotsRemaining = 80 ∧ (s 0).ppu.ly.toNat < 143 ∧ (s 142).ppu.ly.toNat < 143 ∧
    storeWf blankLine (s 142).frame = true ∧ (0 : Nat) ≠ (s 142).ppu.ly.toNat := by decide

/-- `VisibleLineTakes114Cycles`, its second part: outside v-blank and in it, with and without a transition, at the
last count of dots of each. -/
theorem witness_VisibleLineTakes114Cycles_pacing :
    let s (m : Mode) := { base with ppu := { base.ppu with mode := m, dotsRemaining := 44 } }
    4 * (10 : Int) < (s .draw).ppu.dotsRemaining ∧ ¬ 4 * (11 : Int) < (s .draw).ppu.dotsRemaining ∧
    4 * (30 : Int) < (s .vblank).ppu.dotsRemaining + 80 ∧ (s .draw).ppu.mode ≠ .vblank ∧
    (s .vblank).ppu.mode = .vblank := by decide

/-- `RenderLineWritesOneRow`: the last line, the last column. -/
theorem witness_RenderLineWritesOneRow :
    (143 : Nat) < 144 ∧ storeWf blankLine base.frame = true ∧ (159 : Nat) < 160 ∧ (0 : Nat) ≠ 143 := by decide

/-- Twelve sprites of which the first is off the screen and the others cover line 0 at X 8, with an opaque tile 0. -/
def sprites : State :=
  { base with
    mem := [(0x8000, 0xFF), (0xFE04, 16), (0xFE05, 8), (0xFE08, 16), (0xFE09, 8), (0xFE0C, 16), (0xFE0D, 8),
      (0xFE10, 16), (0xFE11, 8), (0xFE14, 16), (0xFE15, 8), (0xFE18, 16), (0xFE19, 8), (0xFE1C, 16), (0xFE1D, 8),
      (0xFE20, 16), (0xFE21, 8), (0xFE24, 16), (0xFE25, 8), (0xFE28, 16), (0xFE29, 8), (0xFE2C, 16), (0xFE2D, 8)]
    ppu := { base.ppu with lcdc := 0x93 } }

/-- `SpriteSelection`: sprites are selected, and one that covers the line is left out. -/
theorem witness_SpriteSelection :
    sprites.selectSprites 0 = [1, 2, 3, 4, 5, 6, 7, 8, 9, 10] ∧ sprites.spriteCovers 0 11 = true := by decide

/-- `SpritePriority`: a column with an opaque sprite pixel (the first of a tie wins) and one with none, and attributes
of both priorities. -/
theorem witness_SpritePriority :
    (sprites.spritePixel (sprites.selectSprites 0) 0 7).map (·.i) = some 1 ∧
    sprites.spritePixel (sprites.selectSprites 0) 0 8 = none ∧
    (0x80 : Byte).getLsbD 7 = true ∧ (0x00 : Byte).getLsbD 7 = false ∧ (1 : BitVec 2) ≠ 0 := by decide

/-- `SpritePriority`, its first clause: sprite 1 covers lines 0 to 7, and its columns are 0 to 7. -/
theorem witness_SpritePriority_covers :
    sprites.byteAt (0xFE00 + 4 * 1) ≤ 0 + 16 ∧ 0 + 16 < sprites.byteAt (0xFE00 + 4 * 1) + sprites.heightOf ∧
    7 + 16 < sprites.byteAt (0xFE00 + 4 * 1) + sprites.heightOf ∧
    ¬ 8 + 16 < sprites.byteAt (0xFE00 + 4 * 1) + sprites.heightOf ∧ sprites.spriteIndex 0 7 1 = 1 := by decide

/-- A load without a boot ROM of an image of n bytes of one value. -/
def loadOf (n : Nat) (v : Byte) (boot : Option (List Byte)) : LoadInputs where
  cartImage := List.replicate n v
  bootRom := boot
  initialMemory := []
  initialRegs := { a := 0, f := 0, b := 0, c := 0, d := 0, e := 0, h := 0, l := 0, sp := 0 }
  hostInput := []

/-- `LoadChecks`: the shortest image that loads, with and without a boot ROM, and one of each failure. -/
theorem witness_LoadChecks :
    loadCheck (loadOf 0x150 0 none) = none ∧ loadCheck (loadOf 0x14F 0 none) = some .malformedImage ∧
    loadCheck (loadOf 0x150 4 none) = some .unsupportedCartridge ∧
    loadCheck (loadOf 0x150 3 (some (List.replicate 256 0))) = none ∧
    loadCheck (loadOf 0x150 3 (some (List.replicate 255 0))) = some .malformedBootRom := by decide +kernel

/-- `StepKeepsInvariant`: reset meets the invariant and steps. -/
theorem witness_StepKeepsInvariant : State.reset.Inv ∧ ∃ t, step State.reset = .next t := ⟨by decide, _, rfl⟩

/-- `DeadHaltIsForEver`: halted with no interrupt enabled. -/
theorem witness_DeadHaltIsForEver :
    let s := { base with irq := { base.irq with halted := true, ifReg := 0x1F, ieReg := 0xE0 } }
    s.deadHalt = true ∧ s.irq.eiPending = false := by decide

end Sys2Proof.Tests
end

/-! Stack round trips: what a pop gives back right after a push (00_scope.md R17, 40_load.md R230 to R232,
45_control.md R386, R388). Said of the shared operations `push16`, `pushQQ`, `popQQ`, `callTo` and `ret`. -/

namespace Sys2Proof.Proofs

open Sys2Proof.Machine Sys2Proof.Bits Sys2Proof.Laws

/-! ### Writing a pair's own value back -/

/-- The registers after a pair is written depend on the registers alone. -/
theorem writeQQ_cpu_congr {s t : State} (h : s.cpu = t.cpu) (q : QQ) (v : Word) :
    (s.writeQQ q v).cpu = (t.writeQQ q v).cpu := by
  cases q <;> simp only [State.writeQQ, State.setBc, State.setDe, State.setHl, State.setAf, h]

theorem writeQQ_readQQ_cpu (s : State) {q : QQ} (h : q ≠ .af) : (s.writeQQ q (s.readQQ q)).cpu = s.cpu := by
  cases q with
  | bc => simp only [State.writeQQ, State.readQQ, State.setBc, State.bc, hi_cat, lo_cat]
  | de => simp only [State.writeQQ, State.readQQ, State.setDe, State.de, hi_cat, lo_cat]
  | hl => simp only [State.writeQQ, State.readQQ, State.setHl, State.hl, hi_cat, lo_cat]
  | af => exact absurd rfl h

/-- AF is the one pair that a write masks (10_state.md R42). -/
theorem writeQQ_readQQ_af_cpu (s : State) :
    (s.writeQQ .af (s.readQQ .af)).cpu = { s.cpu with f := s.cpu.f &&& 0xF0 } := by
  simp only [State.writeQQ, State.readQQ, State.setAf, State.af, hi_cat, lo_cat]

/-! ### A pop after a push -/

@[simp] theorem dropStack_cpu (s : State) : s.dropStack.cpu = { s.cpu with sp := s.cpu.sp + 2 } := rfl

@[simp] theorem setPc_cpu (s : State) (a : Word) : (s.setPc a).cpu = { s.cpu with pc := a } := rfl

section PlainStack

variable {s : State} (hwf : Memory.wf s.mem = true) (hhigh : (route (s.cpu.sp - 1)).isMemory = true)
  (hlow : (route (s.cpu.sp - 2)).isMemory = true)
include hwf hhigh hlow

/-- `POP qq` after `PUSH qq` writes to the pair the value it held. -/
theorem popQQ_pushQQ (q : QQ) :
    ∃ t u, pushQQ q s = .next t ∧ popQQ q t = .next u ∧ u.cpu = (s.writeQQ q (s.readQQ q)).cpu := by
  refine ⟨_, _, rfl, rfl, ?_⟩
  rw [withCost_cpu, stackTop_withCost, stackTop_push16 s _ hwf hhigh hlow]
  exact writeQQ_cpu_congr (by simp) q _

/-- A return after a call, with any costs, comes back to the caller's registers. -/
theorem ret_callTo (a : Word) (k k' : Nat) :
    ∃ t u, callTo a k s = .next t ∧ ret k' t = .next u ∧ t.cpu.pc = a ∧ u.cpu = s.cpu := by
  refine ⟨_, _, rfl, rfl, rfl, ?_⟩
  rw [withCost_cpu, stackTop_withCost, stackTop_setPc, stackTop_push16 s _ hwf hhigh hlow]
  simp

end PlainStack

/-- Settles O35: in plain memory the top of the stack after a push is the pushed word (`stackTop_push16`), so a return
or a pop writes back what the registers held; POP AF alone masks it. -/
theorem stackRoundTrips : Obligations.StackRoundTrips := by
  intro s hwf hhigh hlow
  refine ⟨fun a => ret_callTo hwf hhigh hlow a 6 4, fun q hq => ?_, ?_⟩
  · simpa only [exec_push, exec_pop, writeQQ_readQQ_cpu s hq] using popQQ_pushQQ hwf hhigh hlow q
  · rw [← writeQQ_readQQ_af_cpu]
    exact popQQ_pushQQ hwf hhigh hlow .af

end Sys2Proof.Proofs

/-! The invariant along a step, stage by stage as in `step_of_run`: the EI delay, the instruction, the end of the CPU
step, the PPU's advance and the host's input (60_exceptions.md R430, R431). -/

namespace Sys2Proof.Proofs

open Sys2Proof.Machine Sys2Proof.Bits Sys2Proof.Laws

/-! ### Updates that keep the invariant -/

section
variable {s : State} (h : s.Inv)
include h

/-- Of the interrupt and halt state, the invariant asks only that a halted CPU has no pending EI. -/
theorem inv_withIrq {q : Irq} (hq : q.halted = true → q.eiPending = false) : State.Inv { s with irq := q } := by
  obtain ⟨hstores, ⟨hf, -, hcore⟩, hppu⟩ := h
  exact ⟨hstores, ⟨hf, hq, hcore⟩, hppu⟩

theorem inv_withIrq_running {q : Irq} (hq : q.halted = false) : State.Inv { s with irq := q } :=
  inv_withIrq h fun hhalt => by simp [hq] at hhalt

/-- Of the registers, the invariant asks only that F's low nibble is 0. -/
theorem inv_withCpu {c : Cpu} (hc : CpuOk s c) (k : Nat) : State.Inv { s with cpu := c, cost := k } := by
  obtain ⟨hstores, ⟨hf, hcore⟩, hppu⟩ := h
  have hcf : c.f.extractLsb' 0 4 = 0 := hc.elim id fun e => by rw [e, hf]
  exact ⟨hstores, ⟨hcf, hcore⟩, hppu⟩

theorem inv_busWrite (a : Word) (v : Byte) : (s.busWrite a v).Inv := by
  obtain ⟨hstores, hcore, hppu⟩ := h
  exact ⟨storesOk_busWrite s a v hstores, coreOk_busWrite s a v hcore, ppuOk_busWrite s a v hppu⟩

/-! ### The stages of a step -/

theorem inv_eiDelay : s.eiDelay.Inv := by
  rw [eiDelay_only]
  exact inv_withIrq h fun _ => rfl

/-- An instruction that starts with no pending EI, on a CPU that is not halted, keeps the invariant: HALT then halts
without a pending EI, and EI sets its latch on a running CPU. -/
theorem inv_exec {i : Instr} {t : State} (hei : s.irq.eiPending = false) (hrun : s.irq.halted = false)
    (he : exec i s = .next t) : t.Inv := by
  have heff := exec_effect i s
  rw [he] at heff
  cases heff with
  | regs c k _ _ hc => exact inv_withCpu h hc k
  | store a v c k _ _ hc => exact inv_withCpu (inv_busWrite h a v) (by simpa [CpuOk] using hc) k
  | stores a v a' v' c k _ _ hc =>
    exact inv_withCpu (inv_busWrite (inv_busWrite h a v) a' v') (by simpa [CpuOk] using hc) k
  | halt => exact inv_withIrq h fun _ => hei
  | di => exact inv_withIrq h fun _ => rfl
  | ei => exact inv_withIrq_running h hrun
  | reti _ c hc =>
    have hirq : State.Inv { s with irq := { s.irq with ime := true, eiPending := false } } :=
      inv_withIrq h fun _ => rfl
    exact inv_withCpu hirq (.inr hc) 4

/-- One instruction, or the idle cycle of a halted CPU, after the EI delay. -/
theorem inv_runInstruction {t : State} (hei : s.irq.eiPending = false) (hr : s.runInstruction = .next t) : t.Inv := by
  unfold State.runInstruction at hr
  split at hr
  case isTrue =>
    cases hr
    exact inv_withCpu h (.inr rfl) _
  case isFalse hrun =>
    have hpc : (s.setPc s.pcAfterFetch).Inv := inv_withCpu h (.inr rfl) s.cost
    exact inv_exec hpc hei (Bool.eq_false_iff.2 hrun) hr

theorem inv_timerAdvance (n : Nat) : (s.timerAdvance n).Inv := by
  obtain ⟨hstores, ⟨hf, hhalt, -, htima, hcart⟩, hppu⟩ := h
  obtain ⟨honly, hdiv', htima'⟩ := timerAdvance_only s n
  rw [honly]
  exact ⟨hstores, ⟨hf, hhalt, hdiv', htima' htima, hcart⟩, hppu⟩

theorem inv_dispatch (k : Nat) (hrun : s.irq.halted = false) : (s.dispatch k).Inv := by
  rw [dispatch_eq]
  have hirq : State.Inv { s with irq := { s.irq with ime := false, ifReg := s.irq.ifReg &&& ~~~(1#8 <<< k) } } :=
    inv_withIrq_running h hrun
  exact inv_withCpu (inv_busWrite (inv_busWrite hirq _ _) _ _) (.inr (by simp)) _

theorem inv_interruptEvaluate : s.interruptEvaluate.Inv := by
  have hwake : State.Inv { s with irq := { s.irq with halted := false } } := inv_withIrq_running h rfl
  obtain ⟨e, -⟩ | ⟨e, -⟩ | ⟨e, -⟩ := interruptEvaluate_cases s
  · rw [e]; exact h
  · rw [e]; exact hwake
  · rw [e]; exact inv_dispatch hwake _ rfl

theorem inv_endStep : s.endStep.Inv := inv_interruptEvaluate (inv_timerAdvance h s.cost)

/-- The PPU keeps the invariant over the cycles that one step can take. -/
theorem inv_ppuAdvance {n : Nat} (hn : n ≤ 11) : (s.ppuAdvance n).Inv := by
  obtain ⟨hstores, hcore, hppu⟩ := h
  have hcore' : (s.ppuAdvance n).CoreOk := by
    rw [ppuAdvance_only]
    exact hcore
  exact ⟨storesOk_advance s n hstores, hcore', ppuOk_advance s n hn hppu⟩

theorem inv_applyHostInput : s.applyHostInput.Inv := by
  obtain ⟨-, ⟨-, hhalt, -⟩, -⟩ := id h
  rw [applyHostInput_only]
  exact inv_withIrq h hhalt

end

/-- An instruction takes at most 6 cycles and a dispatch 5 more (60_exceptions.md R430, R440). -/
theorem endStep_cost_le {s : State} (h : s.cost ≤ 6) : s.endStep.cost ≤ 11 :=
  Nat.add_le_add h (interruptCost_le _)

/-! ### The invariant at reset and along every step -/

/-- Settles O58: each part of the invariant is evaluated at the reset values. -/
theorem invariantAtReset : Obligations.InvariantAtReset := by
  have hstores : State.reset.StoresOk := by decide
  have hcore : State.reset.CoreOk := by decide
  have hppu : State.reset.PpuOk := by decide
  exact ⟨hstores, hcore, hppu⟩

/-- Settles O59: every stage of the step keeps the invariant. The EI delay comes first and leaves no pending EI, so a
HALT halts without one. -/
theorem stepKeepsInvariant : Obligations.StepKeepsInvariant := by
  intro s t h hstep
  obtain ⟨u, hrun, -, hcost, -⟩ := runInstruction_next s.eiDelay
  rw [step_of_run hrun] at hstep
  cases hstep
  have hei : s.eiDelay.irq.eiPending = false := by rw [eiDelay_only]
  have hu : u.Inv := inv_runInstruction (inv_eiDelay h) hei hrun
  exact inv_applyHostInput (inv_ppuAdvance (inv_endStep hu) (endStep_cost_le hcost))

end Sys2Proof.Proofs

/-! The writers of the interrupt control state, and the two writes that reach STAT. -/

namespace Sys2Proof.Proofs

open Sys2Proof.Machine Sys2Proof.Bits Sys2Proof.Laws

/-- Settles O38: among the effects an instruction can have (`exec_effect`), those of HALT, DI, EI and RETI alone write
these three bits; a bus write reaches IF and IE at most. -/
theorem interruptControlWriters : Obligations.InterruptControlWriters := by
  intro i s t h
  have heff := exec_effect i s
  rw [h] at heff
  cases heff with
  | regs => exact ⟨fun _ _ => rfl, fun _ _ _ => rfl, fun _ => rfl⟩
  | store => simp
  | stores => simp
  | halt hi => exact ⟨fun _ _ => rfl, fun _ _ _ => rfl, fun hn => absurd hi hn⟩
  | di hi => exact ⟨fun hn _ => absurd hi hn, fun _ hn _ => absurd hi hn, fun _ => rfl⟩
  | ei hi => exact ⟨fun _ _ => rfl, fun hn _ _ => absurd hi hn, fun _ => rfl⟩
  | reti hi => exact ⟨fun _ hn => absurd hi hn, fun _ _ hn => absurd hi hn, fun _ => rfl⟩

/-! ### Writes to LYC and STAT -/

theorem busWrite_lyc (s : State) (v : Byte) :
    s.busWrite 0xFF45 v = State.lycCheck { s with ppu := { s.ppu with lyc := v } } := rfl

theorem busWrite_stat (s : State) (v : Byte) :
    s.busWrite 0xFF41 v = { s with ppu := { s.ppu with stat := (v &&& 0x78) ||| (s.ppu.stat &&& 0x07) } } := rfl

/-- `lyc_check()` whole (60_exceptions.md R513). -/
theorem lycCheck_eq (s : State) :
    s.lycCheck = { s with
      ppu := { s.ppu with stat := setBit s.ppu.stat 2 (s.ppu.ly == s.ppu.lyc) }
      irq := { s.irq with ifReg := s.irq.ifReg |||
        (if (s.ppu.ly == s.ppu.lyc) && !s.ppu.stat.getLsbD 2 && s.ppu.stat.getLsbD 6 then 0x02 else 0) } } := by
  have h0 : s.irq.ifReg ||| 0 = s.irq.ifReg := BitVec.or_zero
  simp only [State.lycCheck]
  split
  · rfl
  · rw [h0]

theorem getLsbD_setBit (v : Byte) {i : Nat} (h : i < 8) (j : Nat) (b : Bool) :
    (setBit v i b).getLsbD j = if j = i then b else v.getLsbD j := by
  split
  case isTrue e => rw [e, getLsbD_setBit_same v i h]
  case isFalse e => exact getLsbD_setBit_other v i j e b

/-- A write to STAT takes bits 6 to 3 from the byte written, keeps bits 2 to 0 and clears bit 7 (20_memory.md R113). -/
theorem statWrite_getLsbD (v w : Byte) {j : Nat} (hj : j < 8) :
    ((v &&& 0x78) ||| (w &&& 0x07)).getLsbD j =
      if j < 3 then w.getLsbD j else if j < 7 then v.getLsbD j else false := by
  have : j = 0 ∨ j = 1 ∨ j = 2 ∨ j = 3 ∨ j = 4 ∨ j = 5 ∨ j = 6 ∨ j = 7 := by omega
  rcases this with e | e | e | e | e | e | e | e <;> subst e <;> simp

/-- Settles O45: the LYC write is the coincidence check on the state with the new LYC (`lycCheck_eq`), and the STAT
write is read off bit by bit. -/
theorem coincidenceAndStatWrites : Obligations.CoincidenceAndStatWrites := by
  intro s v
  dsimp only
  rw [busWrite_lyc, lycCheck_eq, busWrite_stat]
  exact ⟨rfl, fun j _ => getLsbD_setBit _ (by decide) j _, rfl, rfl, fun j hj => statWrite_getLsbD v _ hj⟩

end Sys2Proof.Proofs

/-! The bus decoder row by row (20_memory.md R112, R113), the MBC1 bank select (R122), the boot-ROM handover (R131) and
read-only ROM (R123). -/

namespace Sys2Proof.Proofs

open Sys2Proof.Machine Sys2Proof.Bits Sys2Proof.Laws

/-! ### Reads -/

section
variable (s : State) {a : Word}

theorem busRead_romFixed (h : a.toNat < 0x4000) : s.busRead a = Memory.read s.cart.rom a.toNat := by
  rw [State.busRead, route_romFixed h]

theorem busRead_romBanked (h : 0x4000 ≤ a.toNat) (h' : a.toNat < 0x8000) :
    s.busRead a = Memory.read s.cart.rom (s.cart.romBank.toNat * 0x4000 + (a.toNat - 0x4000)) := by
  rw [State.busRead, route_romBanked h h']
  rfl

theorem busRead_unmapped (h : route a = .unmapped) : s.busRead a = 0 := by
  rw [State.busRead, h]

/-- A register is read at its one address, which the row gives as a number. -/
theorem busRead_of_toNat {k : Nat} {v : Byte} (h : a.toNat = k) (hv : s.busRead (BitVec.ofNat 16 k) = v) :
    s.busRead a = v := by
  rw [← hv, ← h, BitVec.ofNat_toNat, BitVec.setWidth_eq]

end

theorem isMemory_of_route {a : Word} {r : Region} (h : route a = r) (hr : r.isMemory = true) :
    (route a).isMemory = true := by rw [h, hr]

/-- Settles O39: a row that is a range reads what its region reads, and a row of one address is read there. -/
theorem readDecoder : Obligations.ReadDecoder := by
  intro s a
  exact ⟨
    busRead_romFixed s,
    fun h h' => by rw [busRead_romBanked s h h', Nat.add_sub_assoc h],
    fun h h' => busRead_isMemory s (route_isMemory h h'),
    fun h h' => busRead_unmapped s (route_unmapped (.inl ⟨h, h'⟩)),
    fun h h' => busRead_isMemory s (isMemory_of_route (route_oam h h') rfl),
    fun h h' => busRead_unmapped s (route_unmapped (.inr ⟨h, h'⟩)),
    (busRead_of_toNat s · rfl), (busRead_of_toNat s · rfl), (busRead_of_toNat s · rfl),
    (busRead_of_toNat s · rfl), (busRead_of_toNat s · rfl), (busRead_of_toNat s · rfl),
    (busRead_of_toNat s · rfl), (busRead_of_toNat s · rfl), (busRead_of_toNat s · rfl),
    (busRead_of_toNat s · rfl), (busRead_of_toNat s · rfl), (busRead_of_toNat s · rfl),
    (busRead_of_toNat s · rfl), (busRead_of_toNat s · rfl), (busRead_of_toNat s · rfl),
    (busRead_of_toNat s · rfl), (busRead_of_toNat s · rfl), (busRead_of_toNat s · rfl),
    (busRead_of_toNat s · rfl),
    fun h => busRead_isMemory s (isMemory_of_route (route_scratch h) rfl),
    fun h h' => busRead_isMemory s (isMemory_of_route (route_hram h h') rfl),
    (busRead_of_toNat s · rfl)⟩

/-! ### Writes -/

section
variable (s : State) {a : Word} (v : Byte)

theorem busWrite_romFixed (h : a.toNat < 0x4000) : s.busWrite a v = s.writeRomFixed a v := by
  rw [State.busWrite, route_romFixed h]

theorem busWrite_romBanked (h : 0x4000 ≤ a.toNat) (h' : a.toNat < 0x8000) : s.busWrite a v = s := by
  rw [State.busWrite, route_romBanked h h']

theorem busWrite_unmapped (h : route a = .unmapped) : s.busWrite a v = s := by
  rw [State.busWrite, h]

theorem busWrite_isMemory (h : (route a).isMemory = true) : s.busWrite a v = s.memWrite a.toNat v := by
  unfold State.busWrite
  cases hr : route a <;> first | (rw [hr] at h; contradiction) | rfl

/-- As `busRead_of_toNat`, for a write. -/
theorem busWrite_of_toNat {k : Nat} {t : State} (h : a.toNat = k) (ht : s.busWrite (BitVec.ofNat 16 k) v = t) :
    s.busWrite a v = t := by
  rw [← ht, ← h, BitVec.ofNat_toNat, BitVec.setWidth_eq]

/-- A write to 0x0000-0x3FFF that is no bank select (20_memory.md R123). -/
theorem writeRomFixed_ignored (h : a.toNat < 0x2000 ∨ s.cart.isMbc1 = false) : s.writeRomFixed a v = s := by
  refine if_neg fun hsel => ?_
  rw [Bool.and_eq_true, decide_eq_true_eq] at hsel
  obtain ⟨hmbc, hlow⟩ := hsel
  rcases h with h | h
  · omega
  · rw [h] at hmbc; cases hmbc

theorem writeRomFixed_select (hm : s.cart.isMbc1 = true) (h : 0x2000 ≤ a.toNat) :
    s.writeRomFixed a v = { s with cart := { s.cart with romBank := bankSelect v } } :=
  if_pos (by rw [hm, decide_eq_true h]; rfl)

/-- A write to ROM that is no bank select has no effect (20_memory.md R123). -/
theorem busWrite_rom_ignored (h : a.toNat < 0x8000)
    (hno : a.toNat < 0x2000 ∨ 0x4000 ≤ a.toNat ∨ s.cart.isMbc1 = false) : s.busWrite a v = s := by
  by_cases hfix : a.toNat < 0x4000
  · rw [busWrite_romFixed s v hfix]
    exact writeRomFixed_ignored s v (hno.imp_right fun h => h.resolve_left (by omega))
  · exact busWrite_romBanked s v (by omega) h

/-- A write to plain memory changes that byte alone. -/
theorem busWrite_memory_frame (h : (route a).isMemory = true) :
    s.busWrite a v = { s with mem := (s.busWrite a v).mem } ∧
    (Memory.wf s.mem = true → (s.busWrite a v).busRead a = v) ∧
    ∀ b : Word, b ≠ a → (s.busWrite a v).busRead b = s.busRead b := by
  refine ⟨?_, fun w => busWrite_read_same s a v w h, fun b hb => ?_⟩
  · rw [busWrite_isMemory s v h]; rfl
  · rw [busWrite_isMemory s v h]
    exact busRead_memWrite s a.toNat v b fun e => hb (BitVec.eq_of_toNat_eq e)

end

/-- Settles O40: an ignored write goes to a region without a write effect, a register's row is one address, and every
range of the last row is plain memory. -/
theorem ignoredWrites : Obligations.IgnoredWrites := by
  intro s a v
  refine ⟨
    fun h => ⟨busWrite_unmapped s v (route_unmapped h), busRead_unmapped s (route_unmapped h)⟩,
    fun h => busWrite_rom_ignored s v (by omega) (h.imp_right fun h => .inl h.1),
    fun h hm => busWrite_rom_ignored s v h (.inr (.inr hm)),
    (busWrite_of_toNat s v · rfl), (busWrite_of_toNat s v · rfl), (busWrite_of_toNat s v · rfl),
    (busWrite_of_toNat s v · rfl), (busWrite_of_toNat s v · rfl), (busWrite_of_toNat s v · rfl),
    (busWrite_of_toNat s v · rfl), (busWrite_of_toNat s v · rfl), (busWrite_of_toNat s v · rfl),
    (busWrite_of_toNat s v · rfl), (busWrite_of_toNat s v · rfl), (busWrite_of_toNat s v · rfl),
    (busWrite_of_toNat s v · rfl), (busWrite_of_toNat s v · rfl), (busWrite_of_toNat s v · rfl),
    fun h => busWrite_memory_frame s v ?_⟩
  rcases h with ⟨h, h'⟩ | ⟨h, h'⟩ | h
  · exact route_isMemory h h'
  · exact isMemory_of_route (route_oam h h') rfl
  · by_cases hio : a.toNat < 0xFF80
    · exact isMemory_of_route (route_scratch (by omega)) rfl
    · exact isMemory_of_route (route_hram (by omega) (by omega)) rfl

/-! ### The bank select -/

theorem bankSelect_toNat (v : Byte) :
    (bankSelect v).toNat = if v.toNat % 32 = 0 then 1 else v.toNat % 32 := by
  have hlow : (v.extractLsb' 0 5).toNat = v.toNat % 32 := by simp
  have hzero : v.extractLsb' 0 5 = 0 ↔ v.toNat % 32 = 0 := by rw [← BitVec.toNat_inj, hlow]; rfl
  simp only [bankSelect, hzero]
  split
  · rfl
  · exact hlow

/-- Settles O41: the select's bank in whole numbers (`bankSelect_toNat`), and the two windows' reads. -/
theorem bankSelect : Obligations.BankSelect := by
  intro s a v hm h h'
  have hw : s.busWrite a v = { s with cart := { s.cart with romBank := Machine.bankSelect v } } := by
    rw [busWrite_romFixed s v h', writeRomFixed_select s v hm h]
  refine ⟨?_, fun w hlow hhigh => ?_, fun w hlow => ?_⟩
  · rw [hw, ← bankSelect_toNat, BitVec.ofNat_toNat, BitVec.setWidth_eq]
  · rw [hw, busRead_romBanked _ hlow hhigh, bankSelect_toNat]
  · rw [hw, busRead_romFixed _ hlow]

/-! ### The boot ROM and read-only ROM -/

theorem writeBootDisable_of_disabled {s : State} (h : s.cart.disableBootrom = true) : s.writeBootDisable = s :=
  if_pos h

theorem writeBootDisable_of_enabled {s : State} (h : s.cart.disableBootrom = false) :
    s.writeBootDisable =
      { s with cart := { s.cart with rom := overlayLow s.cart.rom s.cart.cartLow, disableBootrom := true } } :=
  if_neg (by simp [h])

theorem busWrite_bootDisable (s : State) (v : Byte) : s.busWrite 0xFF50 v = s.writeBootDisable := rfl

/-- Settles O43: the first write overlays cart_low (`overlayLow_spec`), and leaves the state in which the write has no
effect. -/
theorem bootRomHandover : Obligations.BootRomHandover := by
  intro s v
  refine ⟨writeBootDisable_of_disabled, fun h => ?_, rfl⟩
  dsimp only
  rw [busWrite_bootDisable, writeBootDisable_of_enabled h]
  have hread := fun w => (overlayLow_spec s.cart.rom s.cart.cartLow w).2
  generalize overlayLow s.cart.rom s.cart.cartLow = rom at hread ⊢
  exact ⟨rfl, hread, writeBootDisable_of_disabled rfl⟩

/-- What an instruction leaves of the cartridge (10_state.md R83, 20_memory.md R123, R144): its type and images, ROM
once the boot ROM is disabled, and the bank without a bank controller. -/
def RomKept (c d : Cart) : Prop :=
  d.cartType = c.cartType ∧ d.cartLow = c.cartLow ∧ d.bootImage = c.bootImage ∧
  (c.disableBootrom = true → d.rom = c.rom ∧ d.disableBootrom = true) ∧
  (c.isMbc1 = false → d.romBank = c.romBank)

theorem romKept_refl (c : Cart) : RomKept c c := ⟨rfl, rfl, rfl, fun h => ⟨rfl, h⟩, fun _ => rfl⟩

theorem romKept_trans {c d e : Cart} (h : RomKept c d) (h' : RomKept d e) : RomKept c e := by
  obtain ⟨htype, hlow, hboot, hrom, hbank⟩ := h
  obtain ⟨htype', hlow', hboot', hrom', hbank'⟩ := h'
  refine ⟨htype'.trans htype, hlow'.trans hlow, hboot'.trans hboot, fun hd => ?_, fun hm => ?_⟩
  · obtain ⟨e1, d1⟩ := hrom hd
    obtain ⟨e2, d2⟩ := hrom' d1
    exact ⟨e2.trans e1, d2⟩
  · have hm' : d.isMbc1 = false := by rw [← hm]; simp only [Cart.isMbc1, htype]
    exact (hbank' hm').trans (hbank hm)

theorem romKept_writeRomFixed (s : State) (a : Word) (v : Byte) : RomKept s.cart (s.writeRomFixed a v).cart := by
  obtain ⟨b, hb⟩ := writeRomFixed_only s a v
  have hbank : s.cart.isMbc1 = false → (s.writeRomFixed a v).cart.romBank = s.cart.romBank := fun hm => by
    rw [writeRomFixed_ignored s v (.inr hm)]
  rw [hb] at hbank ⊢
  exact ⟨rfl, rfl, rfl, fun h => ⟨rfl, h⟩, hbank⟩

theorem romKept_writeBootDisable (s : State) : RomKept s.cart s.writeBootDisable.cart := by
  cases h : s.cart.disableBootrom
  case true => rw [writeBootDisable_of_disabled h]; exact romKept_refl _
  case false =>
    rw [writeBootDisable_of_enabled h]
    exact ⟨rfl, rfl, rfl, fun h' => absurd (h.symm.trans h') Bool.false_ne_true, fun _ => rfl⟩

/-- Two rows of the write decoder reach the cartridge: the bank select and the boot-ROM disable. -/
theorem romKept_busWrite (s : State) (a : Word) (v : Byte) : RomKept s.cart (s.busWrite a v).cart := by
  unfold State.busWrite
  cases route a
  case romFixed => exact romKept_writeRomFixed s a v
  case bootDisable => exact romKept_writeBootDisable s
  case lyc =>
    obtain ⟨q, hq⟩ := lycCheck_only { s with ppu := { s.ppu with lyc := v } }
    dsimp only
    rw [hq]
    exact romKept_refl _
  case dma =>
    obtain ⟨m, hm, -⟩ := oamDma_only s v
    dsimp only
    rw [hm]
    exact romKept_refl _
  all_goals exact romKept_refl _

/-- Settles O44: an instruction reaches the cartridge through its bus writes alone (`exec_effect`), and each keeps
it. -/
theorem romIsReadOnly : Obligations.RomIsReadOnly := by
  intro i s t h
  have heff := exec_effect i s
  rw [h] at heff
  cases heff with
  | store a v => exact romKept_busWrite s a v
  | stores a v a' v' => exact romKept_trans (romKept_busWrite s a v) (romKept_busWrite _ a' v')
  | regs | halt | di | ei | reti => exact romKept_refl s.cart

end Sys2Proof.Proofs

/-! The load sequence (20_memory.md R121, R126, R127, R130; 70_reset_and_hazards.md R551 to R559): when it succeeds, and
the state it leaves. -/

namespace Sys2Proof.Proofs

open Sys2Proof.Machine Sys2Proof.Bits Sys2Proof.Laws

/-! ### The checks -/

/-- ROM_CAPACITY by the type's number (20_memory.md R121). -/
theorem romCapacity_eq (c : Byte) :
    romCapacity c = if c.toNat ≤ 3 then some (if c.toNat = 0 then 0x8000 else 0x80000) else none := by
  have heq : ∀ k : Byte, c = k ↔ c.toNat = k.toNat := fun k => BitVec.toNat_inj.symm
  have hmbc : c = 0x01 ∨ c = 0x02 ∨ c = 0x03 ↔ c.toNat = 1 ∨ c.toNat = 2 ∨ c.toNat = 3 := by
    rw [heq, heq, heq]; rfl
  have hzero : c = 0x00 ↔ c.toNat = 0 := heq 0x00
  simp only [romCapacity, hzero, hmbc]
  by_cases h0 : c.toNat = 0
  · rw [if_pos h0, if_pos (by omega), if_pos h0]; rfl
  · rw [if_neg h0, if_neg h0]
    by_cases hmax : c.toNat ≤ 3
    · rw [if_pos (by omega), if_pos hmax]; rfl
    · rw [if_neg (by omega), if_neg hmax]

/-- The load-time checks of 20_memory.md R127, all passed. -/
theorem loadCheck_eq_none_iff (x : LoadInputs) :
    loadCheck x = none ↔
      0x150 ≤ x.cartImage.length ∧ (imageType x.cartImage).toNat ≤ 3 ∧
      x.cartImage.length ≤ (if (imageType x.cartImage).toNat = 0 then 0x8000 else 0x80000) ∧
      ∀ b, x.bootRom = some b → b.length = 256 := by
  unfold loadCheck
  rw [romCapacity_eq]
  generalize (if (imageType x.cartImage).toNat = 0 then 0x8000 else 0x80000) = cap
  have hlong : 0x150 ≤ x.cartImage.length ↔ ¬ x.cartImage.length < Config.minImageSize := Nat.not_lt.symm
  rw [hlong]
  by_cases hmin : x.cartImage.length < Config.minImageSize
  case pos => simp [hmin]
  by_cases htype : (imageType x.cartImage).toNat ≤ 3
  case neg => simp [hmin, htype]
  by_cases hcap : cap < x.cartImage.length
  case pos => simp [hmin, htype, hcap, Nat.not_le.2 hcap]
  simp only [hmin, htype, hcap, Nat.not_lt.1 hcap, not_false_eq_true, if_true, if_false, true_and]
  cases x.bootRom with
  | none => simp
  | some b =>
    by_cases hb : b.length = 256
    · simp [Config.bootRomSize, hb]
    · simp [Config.bootRomSize, hb]

/-! ### The state loaded -/

theorem drawnMemory_ok (cells : List (Nat × Byte)) :
    Memory.wf (drawnMemory cells) = true ∧ MemOk (drawnMemory cells) := by
  refine List.foldlRecOn cells _ (motive := fun m => Memory.wf m = true ∧ MemOk m) ⟨rfl, nofun⟩ ?_
  intro m ⟨hwf, hok⟩ c _
  split
  case isTrue h =>
    rw [Bool.and_eq_true, decide_eq_true_eq] at h
    exact ⟨memory_wf_write _ _ hwf, memOk_memWrite _ _ _ hok h.1 h.2⟩
  case isFalse => exact ⟨hwf, hok⟩

theorem loadedCart_rom_some (image b : List Byte) :
    (loadedCart image (some b)).rom = overlayLow (Memory.writeList [] 0 image) (Memory.writeList [] 0 b) := by
  rw [loadedCart]

theorem loadedCart_rom (image : List Byte) (boot : Option (List Byte)) :
    Memory.wf (loadedCart image boot).rom = true ∧
    ∀ k, Memory.read (loadedCart image boot).rom k =
      match boot with
      | none => image.getD k 0
      | some b => if k < 256 then b.getD k 0 else image.getD k 0 := by
  have hwf : Memory.wf (Memory.writeList [] 0 image) = true := memory_wf_writeList 0 image rfl
  cases boot with
  | none => exact ⟨hwf, memory_read_image image⟩
  | some b =>
    rw [loadedCart_rom_some]
    simpa only [memory_read_image] using overlayLow_spec _ (Memory.writeList [] 0 b) hwf

theorem loadedCart_cartLow_wf (image : List Byte) (boot : Option (List Byte)) :
    Memory.wf (loadedCart image boot).cartLow = true := by
  cases boot with
  | none => rfl
  | some b => exact memory_wf_writeList 0 (image.take Config.bootRomSize) rfl

theorem loadedCart_romBank (image : List Byte) (boot : Option (List Byte)) :
    (loadedCart image boot).romBank = 1 := by cases boot <;> rfl

theorem loadedCart_disableBootrom (image : List Byte) (boot : Option (List Byte)) :
    (loadedCart image boot).disableBootrom = boot.isNone := by cases boot <;> rfl

/-- A boot ROM changes only the registers and two of the PPU's (70_reset_and_hazards.md R552, R553, R556). -/
theorem loaded_eq (x : LoadInputs) :
    State.loaded x = { State.reset with
      cart := loadedCart x.cartImage x.bootRom
      mem := drawnMemory x.initialMemory
      hostInput := x.hostInput
      cpu := if x.bootRom.isSome then bootCpu x.initialRegs else Cpu.reset
      ppu := if x.bootRom.isSome then { Ppu.reset with lcdc := 0x00, bgp := 0x00 } else Ppu.reset } := by
  unfold State.loaded
  cases h : x.bootRom <;> rfl

theorem inv_loaded (x : LoadInputs) : (State.loaded x).Inv := by
  obtain ⟨hmem, hplain⟩ := drawnMemory_ok x.initialMemory
  obtain ⟨hrom, -⟩ := loadedCart_rom x.cartImage x.bootRom
  have hlow := loadedCart_cartLow_wf x.cartImage x.bootRom
  have hbank := loadedCart_romBank x.cartImage x.bootRom
  have hf : (if x.bootRom.isSome then bootCpu x.initialRegs else Cpu.reset).f.extractLsb' 0 4 = 0 := by
    split
    · exact low_nibble_and_F0 _
    · rfl
  obtain ⟨-, ⟨-, hhalt, hdiv, htima, -⟩, hreset⟩ := invariantAtReset
  have hppu : State.PpuOk { State.reset with
      ppu := if x.bootRom.isSome then { Ppu.reset with lcdc := 0x00, bgp := 0x00 } else Ppu.reset } := by
    cases x.bootRom.isSome <;> exact hreset
  rw [loaded_eq]
  refine ⟨⟨hmem, hrom, hlow, rfl, hplain, nofun⟩, ⟨hf, hhalt, hdiv, htima, ?_, fun _ => hbank⟩, hppu⟩
  rw [hbank]
  decide

/-- Settles O57: the checks as one condition (`loadCheck_eq_none_iff`), and the state loaded part by part. -/
theorem loadChecks : Obligations.LoadChecks := by
  intro x
  refine ⟨fun hbad => ?_, fun hgood => ?_⟩
  · obtain ⟨r, hr⟩ := Option.ne_none_iff_exists'.1 fun h => hbad ((loadCheck_eq_none_iff x).1 h)
    exact ⟨r, by rw [State.load, hr]⟩
  · have hcart : (State.loaded x).cart = loadedCart x.cartImage x.bootRom := by rw [loaded_eq]
    refine ⟨State.loaded x, by rw [State.load, (loadCheck_eq_none_iff x).2 hgood], inv_loaded x, ?_, ?_, ?_⟩
    · rw [hcart, loadedCart_romBank]
    · rw [hcart, loadedCart_disableBootrom]
    · rw [hcart]
      exact (loadedCart_rom x.cartImage x.bootRom).2

end Sys2Proof.Proofs

/-! The codec (30_encoding.md R160 to R181): decoding after encoding family by family of instructions, encoding after
decoding row by row of the opcode maps. -/

namespace Sys2Proof.Proofs

open Sys2Proof.Bits Sys2Proof.Laws

/-! ### Decoding an encoding -/

/-- The decoder reads this instruction from its encoding and leaves the bytes after it. -/
def DecodesBack (i : Instr) : Prop := ∀ rest, decode (encode i ++ rest) = .ok (i, rest)

/-- An immediate word comes back from its two bytes, low byte first (30_encoding.md R172). -/
theorem decodesBack_word {C : Word → Instr} {op : Byte} (henc : ∀ v, encode (C v) = [op, lo v, hi v])
    (hdec : ∀ b1 b2 rest, decode (op :: b1 :: b2 :: rest) = .ok (C (cat b2 b1), rest)) (v : Word) :
    DecodesBack (C v) := by
  intro rest
  have h := hdec (lo v) (hi v) rest
  rw [cat_hi_lo] at h
  rw [henc v]
  exact h

/-- Family by family: with the operand fields known the decoder runs on the encoding, and only a word has to be put
together again. -/
theorem decodesBack (i : Instr) : i.wellFormed = true → DecodesBack i := by
  cases i using instr_families with
  | prefixCb => exact nofun
  | ldRrN16 f v | jpCc f v | callCc f v =>
    cases f <;> exact fun _ => decodesBack_word (fun _ => rfl) (fun _ _ _ => rfl) v
  | ldAtA16Sp v | jpA16 v | callA16 v | ldAtA16A v | ldAAtA16 v =>
    exact fun _ => decodesBack_word (fun _ => rfl) (fun _ _ _ => rfl) v
  | ldR8R8 f r | aluR8 f r | shift f r => cases f <;> cases r <;> exact fun _ _ => rfl
  | bit f r | res f r | set f r => match f with
    | 0 | 1 | 2 | 3 | 4 | 5 | 6 | 7 => cases r <;> exact fun _ _ => rfl
  | rst y => match y with
    | 0 | 1 | 2 | 3 | 4 | 5 | 6 | 7 => exact fun _ _ => rfl
  | ldR8N8 f | incR8 f | decR8 f | aluN8 f | addHlRr f | incRr f | decRr f | ldIndA f | ldAInd f | push f | pop f
  | jrCc f | retCc f | unassigned f => cases f <;> exact fun _ _ => rfl
  | stop | jrE8 | ldhAtA8A | addSpE8 | ldhAAtA8 | ldHlSpE8 | nop | rlca | rrca | rla | rra | daa | cpl | scf | ccf
  | halt | ret | reti | ldhAtCA | jpHl | ldhAAtC | di | ldSpHl | ei => exact fun _ _ => rfl

/-- Settles O1: `decodesBack` goes through the families of instructions. -/
theorem decodeOfEncode : Obligations.DecodeOfEncode := fun i rest hwf => decodesBack i hwf rest

/-! ### The bytes of the field forms (30_encoding.md R163, R168, R170) -/

theorem encode_ldR8R8 (f r : R8) : encode (Instr.ldR8R8 f r) = [BitVec.ofNat 8 (0x40 + 8 * f.code + r.code)] := by
  cases f <;> cases r <;> rfl

theorem encode_aluR8 (op : AluOp) (r : R8) :
    encode (Instr.aluR8 op r) = [BitVec.ofNat 8 (0x80 + 8 * op.code + r.code)] := by
  cases op <;> cases r <;> rfl

theorem encode_shift (op : ShiftOp) (r : R8) :
    encode (Instr.shift op r) = [0xCB, BitVec.ofNat 8 (8 * op.code + r.code)] := by
  cases op <;> cases r <;> rfl

theorem encode_bit (b : Fin 8) (r : R8) :
    encode (Instr.bit b r) = [0xCB, BitVec.ofNat 8 (0x40 + 8 * b.val + r.code)] := by
  match b with
  | 0 | 1 | 2 | 3 | 4 | 5 | 6 | 7 => cases r <;> rfl

theorem encode_res (b : Fin 8) (r : R8) :
    encode (Instr.res b r) = [0xCB, BitVec.ofNat 8 (0x80 + 8 * b.val + r.code)] := by
  match b with
  | 0 | 1 | 2 | 3 | 4 | 5 | 6 | 7 => cases r <;> rfl

theorem encode_set (b : Fin 8) (r : R8) :
    encode (Instr.set b r) = [0xCB, BitVec.ofNat 8 (0xC0 + 8 * b.val + r.code)] := by
  match b with
  | 0 | 1 | 2 | 3 | 4 | 5 | 6 | 7 => cases r <;> rfl

@[simp] theorem r8_code_ofField (f : Fin 8) : (R8.ofField f).code = f.val := by
  match f with
  | 0 | 1 | 2 | 3 | 4 | 5 | 6 | 7 => rfl

@[simp] theorem aluOp_code_ofField (f : Fin 8) : (AluOp.ofField f).code = f.val := by
  match f with
  | 0 | 1 | 2 | 3 | 4 | 5 | 6 | 7 => rfl

@[simp] theorem shiftOp_code_ofField (f : Fin 8) : (ShiftOp.ofField f).code = f.val := by
  match f with
  | 0 | 1 | 2 | 3 | 4 | 5 | 6 | 7 => rfl

/-! ### A byte by its fields (30_encoding.md R162) -/

/-- The byte with the fields x, y and z. -/
def byteOfFields (x : Fin 4) (y z : Fin 8) : Byte := BitVec.ofNat 8 (64 * x.val + 8 * y.val + z.val)

theorem fieldX_val (op : Byte) : (fieldX op).val = op.toNat / 64 := by
  have := op.isLt
  simp only [fieldX, BitVec.val_toFin, BitVec.extractLsb'_toNat, Nat.shiftRight_eq_div_pow]
  omega

theorem fieldY_val (op : Byte) : (fieldY op).val = op.toNat / 8 % 8 := by
  simp only [fieldY, BitVec.val_toFin, BitVec.extractLsb'_toNat, Nat.shiftRight_eq_div_pow]

theorem fieldZ_val (op : Byte) : (fieldZ op).val = op.toNat % 8 := by
  simp only [fieldZ, BitVec.val_toFin, BitVec.extractLsb'_toNat, Nat.shiftRight_zero]

theorem byteOfFields_toNat (x : Fin 4) (y z : Fin 8) :
    (byteOfFields x y z).toNat = 64 * x.val + 8 * y.val + z.val := by
  rw [byteOfFields, BitVec.toNat_ofNat]
  omega

@[simp] theorem fieldX_byteOfFields (x : Fin 4) (y z : Fin 8) : fieldX (byteOfFields x y z) = x := by
  apply Fin.ext
  rw [fieldX_val, byteOfFields_toNat]
  omega

@[simp] theorem fieldY_byteOfFields (x : Fin 4) (y z : Fin 8) : fieldY (byteOfFields x y z) = y := by
  apply Fin.ext
  rw [fieldY_val, byteOfFields_toNat]
  omega

@[simp] theorem fieldZ_byteOfFields (x : Fin 4) (y z : Fin 8) : fieldZ (byteOfFields x y z) = z := by
  apply Fin.ext
  rw [fieldZ_val, byteOfFields_toNat]
  omega

theorem byteOfFields_fields (op : Byte) : byteOfFields (fieldX op) (fieldY op) (fieldZ op) = op := by
  apply BitVec.eq_of_toNat_eq
  rw [byteOfFields_toNat, fieldX_val, fieldY_val, fieldZ_val]
  omega

/-- To show P of every byte, show it of the bytes given by fields. -/
theorem forall_byteOfFields {P : Byte → Prop} (h : ∀ x y z, P (byteOfFields x y z)) (op : Byte) : P op :=
  byteOfFields_fields op ▸ h _ _ _

/-! ### Encoding what was decoded -/

/-- The extended map (30_encoding.md R170, R176), row by row. -/
theorem encode_decodeExtended (op2 : Byte) : encode (decodeExtended op2) = [0xCB, op2] := by
  revert op2
  refine forall_byteOfFields fun x y z => ?_
  simp only [decodeExtended, fieldX_byteOfFields, fieldY_byteOfFields, fieldZ_byteOfFields]
  match x with
  | 0 =>
    rw [encode_shift, shiftOp_code_ofField, r8_code_ofField, byteOfFields, Fin.val_zero, Nat.mul_zero, Nat.zero_add]
  | 1 => rw [encode_bit, r8_code_ofField]; rfl
  | 2 => rw [encode_res, r8_code_ofField]; rfl
  | 3 => rw [encode_set, r8_code_ofField]; rfl

/-- The bytes that the decoder reads as an instruction are its encoding. -/
def EncodesBack (b0 b1 b2 : Byte) : Prop := encode (decodeBytes b0 b1 b2) = [b0, b1, b2].take (opLength b0)

/-- A word is encoded as the two bytes it was read from (30_encoding.md R172). -/
theorem wordBytes_cat (op b1 b2 : Byte) : [op, lo (cat b2 b1), hi (cat b2 b1)] = [op, b1, b2] := by
  rw [lo_cat, hi_cat]

/-- x = 0 (30_encoding.md R175): the immediate words are LD (a16),SP and LD rr,n16. -/
theorem encodesBack_x0 (b1 b2 : Byte) (y z : Fin 8) : EncodesBack (byteOfFields 0 y z) b1 b2 := by
  have hw := fun op => wordBytes_cat op b1 b2
  revert y
  apply forall_bit
  match z with
  | 0 => exact ⟨rfl, hw _, rfl, rfl, rfl, rfl, rfl, rfl⟩
  | 1 => exact ⟨hw _, rfl, hw _, rfl, hw _, rfl, hw _, rfl⟩
  | 2 | 3 | 4 | 5 | 6 | 7 => exact ⟨rfl, rfl, rfl, rfl, rfl, rfl, rfl, rfl⟩

/-- x = 3 (30_encoding.md R175): the immediate words are JP cc, LD (a16),A and LD A,(a16), JP, CALL cc and CALL; at
y = 1, z = 3 stands 0xCB, which opens the extended map. -/
theorem encodesBack_x3 (b1 b2 : Byte) (y z : Fin 8) : EncodesBack (byteOfFields 3 y z) b1 b2 := by
  have hw := fun op => wordBytes_cat op b1 b2
  revert y
  apply forall_bit
  match z with
  | 0 | 1 | 6 | 7 => exact ⟨rfl, rfl, rfl, rfl, rfl, rfl, rfl, rfl⟩
  | 2 => exact ⟨hw _, hw _, hw _, hw _, rfl, hw _, rfl, hw _⟩
  | 3 => exact ⟨hw _, encode_decodeExtended b1, rfl, rfl, rfl, rfl, rfl, rfl⟩
  | 4 => exact ⟨hw _, hw _, hw _, hw _, rfl, rfl, rfl, rfl⟩
  | 5 => exact ⟨rfl, hw _, rfl, rfl, rfl, rfl, rfl, rfl⟩

/-- The byte 0xCB has x = 3. -/
theorem decodeBytes_of_fieldX_ne_three {b0 : Byte} (h : fieldX b0 ≠ 3) (b1 b2 : Byte) :
    decodeBytes b0 b1 b2 = decodeUnprefixed b0 b1 b2 := by
  have hcb : b0 ≠ 0xCB := fun e => h (by rw [e]; rfl)
  rw [decodeBytes, if_neg hcb]

/-- A byte with x = 1 or x = 2 is a whole instruction. -/
theorem opLength_eq_one {op : Byte} (h : fieldX op = 1 ∨ fieldX op = 2) : opLength op = 1 := by
  unfold opLength
  rcases h with h | h <;> rw [h] <;> rfl

/-- x = 1 (30_encoding.md R163, R179): the loads between registers, and HALT. -/
theorem encodesBack_x1 (b1 b2 : Byte) (y z : Fin 8) : EncodesBack (byteOfFields 1 y z) b1 b2 := by
  rw [EncodesBack, opLength_eq_one (by simp), decodeBytes_of_fieldX_ne_three (by simp), decodeUnprefixed]
  simp only [fieldX_byteOfFields, fieldY_byteOfFields, fieldZ_byteOfFields]
  rw [encode_ldR8R8, r8_code_ofField, r8_code_ofField]
  rfl

/-- x = 2 (30_encoding.md R168): the ALU operations. -/
theorem encodesBack_x2 (b1 b2 : Byte) (y z : Fin 8) : EncodesBack (byteOfFields 2 y z) b1 b2 := by
  rw [EncodesBack, opLength_eq_one (by simp), decodeBytes_of_fieldX_ne_three (by simp), decodeUnprefixed]
  simp only [fieldX_byteOfFields, fieldY_byteOfFields, fieldZ_byteOfFields]
  rw [encode_aluR8, aluOp_code_ofField, r8_code_ofField]
  rfl

/-- Row by row of the maps, by x = op[7:6]. -/
theorem encodesBack (b0 b1 b2 : Byte) : EncodesBack b0 b1 b2 := by
  revert b0
  refine forall_byteOfFields fun x y z => ?_
  match x with
  | 0 => exact encodesBack_x0 b1 b2 y z
  | 1 => exact encodesBack_x1 b1 b2 y z
  | 2 => exact encodesBack_x2 b1 b2 y z
  | 3 => exact encodesBack_x3 b1 b2 y z

/-! ### The lengths (30_encoding.md R160, R177) -/

theorem opLength_cases (op : Byte) : opLength op = 1 ∨ opLength op = 2 ∨ opLength op = 3 := by
  unfold opLength
  split
  case h_4 => cases fieldQ op <;> simp
  all_goals simp

theorem encode_decodeBytes_length (b0 b1 b2 : Byte) : (encode (decodeBytes b0 b1 b2)).length = opLength b0 := by
  have h := opLength_cases b0
  rw [encodesBack b0 b1 b2, List.length_take]
  simp only [List.length_cons, List.length_nil]
  omega

theorem wellFormed_of_ne_prefixCb {i : Instr} (h : i ≠ .prefixCb) : i.wellFormed = true := by
  unfold Instr.wellFormed
  split
  · exact absurd rfl h
  · rfl

/-- `prefixCb` is never decoded (30_encoding.md R174): its encoding is one byte, and 0xCB opens two. -/
theorem decodeBytes_wellFormed (b0 b1 b2 : Byte) : (decodeBytes b0 b1 b2).wellFormed = true := by
  refine wellFormed_of_ne_prefixCb fun hprefix => ?_
  have hlen := encode_decodeBytes_length b0 b1 b2
  have henc := encodesBack b0 b1 b2
  rw [EncodesBack, ← hlen, hprefix] at henc
  have hb0 : (0xCB : Byte) = b0 := (List.cons.inj henc).1
  rw [hprefix, ← hb0] at hlen
  exact absurd hlen (by decide)

/-- The decoder reads `decodeBytes` of any three bytes and leaves what the opcode's length does not take: they are an
encoding with bytes after it, so `decodeOfEncode` applies. -/
theorem decode_three (b0 b1 b2 : Byte) (rest : List Byte) :
    decode (b0 :: b1 :: b2 :: rest) = .ok (decodeBytes b0 b1 b2, (b0 :: b1 :: b2 :: rest).drop (opLength b0)) := by
  have hlen : opLength b0 ≤ [b0, b1, b2].length := by
    have := opLength_cases b0
    simp only [List.length_cons, List.length_nil]
    omega
  have hbytes : encode (decodeBytes b0 b1 b2) ++ (b0 :: b1 :: b2 :: rest).drop (opLength b0) =
      b0 :: b1 :: b2 :: rest := by
    rw [encodesBack b0 b1 b2, ← List.take_append_of_le_length (l₂ := rest) hlen]
    exact List.take_append_drop (opLength b0) (b0 :: b1 :: b2 :: rest)
  have h := decodeOfEncode _ ((b0 :: b1 :: b2 :: rest).drop (opLength b0)) (decodeBytes_wellFormed b0 b1 b2)
  rwa [hbytes] at h

/-- A successful read takes the bytes of its opcode's length. -/
theorem decode_eq_ok {bytes rest : List Byte} {i : Instr} (h : decode bytes = .ok (i, rest)) :
    ∃ b0 b1 b2, i = decodeBytes b0 b1 b2 ∧ [b0, b1, b2].take (opLength b0) ++ rest = bytes := by
  unfold decode at h
  split at h
  case h_1 => cases h
  case h_2 b0 _ =>
    split at h
    case h_1 hlen => cases h; exact ⟨b0, 0, 0, rfl, by rw [hlen]; rfl⟩
    case h_2 b1 _ hlen => cases h; exact ⟨b0, b1, 0, rfl, by rw [hlen]; rfl⟩
    case h_3 b1 b2 _ hlen => cases h; exact ⟨b0, b1, b2, rfl, by rw [hlen]; rfl⟩
    case h_4 => cases h

/-- Settles O2: a successful read is `decodeBytes` of its bytes (`decode_eq_ok`), and `encodesBack` goes through the
rows of the opcode maps. -/
theorem encodeOfDecode : Obligations.EncodeOfDecode := by
  intro bytes rest i h
  obtain ⟨b0, b1, b2, rfl, hbytes⟩ := decode_eq_ok h
  refine ⟨decodeBytes_wellFormed b0 b1 b2, ?_⟩
  rw [encodesBack b0 b1 b2, hbytes]

/-- Settles O3: any three bytes are an encoding with bytes after it (`decode_three`). -/
theorem decoderTotal : Obligations.DecoderTotal := by
  intro b0 b1 b2 rest
  have hlen := opLength_cases b0
  exact ⟨by omega, by omega, decodeBytes b0 b1 b2, decode_three b0 b1 b2 rest, decodeBytes_wellFormed b0 b1 b2,
    encode_decodeBytes_length b0 b1 b2⟩

/-- Settles O4: the words are fixed, so the decoder runs on them. -/
theorem decodeSampleWords : Obligations.DecodeSampleWords :=
  ⟨rfl, rfl, rfl, rfl, rfl, rfl, rfl, rfl, rfl, rfl, rfl, rfl⟩

end Sys2Proof.Proofs

/-! The loads (40_load.md R200 to R232): what the shared operations of a load do, said once for each shape, and the
statements about the instructions assembled from them. -/

namespace Sys2Proof.Proofs

open Sys2Proof.Machine Sys2Proof.Bits Sys2Proof.Laws

/-! ### The bytes of the load forms (30_encoding.md R163 to R165, R167) -/

theorem encode_ldR8N8 (dst : R8) (n : Byte) :
    encode (Instr.ldR8N8 dst n) = [BitVec.ofNat 8 (0x06 + 8 * dst.code), n] := by
  cases dst <;> rfl

theorem encode_ldAInd (m : Ind) : encode (Instr.ldAInd m) = [BitVec.ofNat 8 (0x0A + 16 * m.code)] := by
  cases m <;> rfl

theorem encode_ldIndA (m : Ind) : encode (Instr.ldIndA m) = [BitVec.ofNat 8 (0x02 + 16 * m.code)] := by
  cases m <;> rfl

theorem encode_ldRrN16 (r : RR) (v : Word) :
    encode (Instr.ldRrN16 r v) = [BitVec.ofNat 8 (0x01 + 16 * r.code), lo v, hi v] := by
  cases r <;> rfl

theorem encode_push (q : QQ) : encode (Instr.push q) = [BitVec.ofNat 8 (0xC5 + 16 * q.code)] := by
  cases q <;> rfl

theorem encode_pop (q : QQ) : encode (Instr.pop q) = [BitVec.ofNat 8 (0xC1 + 16 * q.code)] := by
  cases q <;> rfl

/-! ### The registers that an update keeps -/

theorem keepsR8_of_cpu_eq {s t : State} (h : t.cpu = s.cpu) : KeepsR8 s t [] := by
  intro r hr _
  cases r with
  | atHl => exact absurd rfl hr
  | b | c | d | e | h | l | a => simp only [State.readR8, h]

theorem keepsR8_setA (s : State) (v : Byte) : KeepsR8 s (s.setA v) [.a] := by
  intro r hr hmem
  cases r with
  | atHl => exact absurd rfl hr
  | a => exact absurd List.mem_cons_self hmem
  | b | c | d | e | h | l => rfl

theorem keepsR8_setHl (s : State) (v : Word) : KeepsR8 s (s.setHl v) [.h, .l] := by
  intro r hr hmem
  cases r with
  | atHl => exact absurd rfl hr
  | h | l => simp at hmem
  | b | c | d | e | a => rfl

theorem keepsR8_trans {s t u : State} {xs ys : List R8} (h : KeepsR8 s t xs) (h' : KeepsR8 t u ys) :
    KeepsR8 s u (xs ++ ys) := by
  intro r hr hmem
  rw [List.mem_append, not_or] at hmem
  exact (h' r hr hmem.2).trans (h r hr hmem.1)

/-! ### Loads and stores of a byte -/

theorem costOf_register {r : R8} (h : r ≠ .atHl) (reg mem : Nat) : costOf r reg mem = reg := by
  cases r with
  | atHl => exact absurd rfl h
  | b | c | d | e | h | l | a => rfl

/-- A load into a register. -/
theorem finish_writeR8 (s : State) {dst : R8} (hdst : dst ≠ .atHl) (v : Byte) (k : Nat) :
    ∃ t, finish (s.writeR8 dst v) k = .next t ∧ t.cost = k ∧ t.readR8 dst = v ∧ OnlyR8 s t [dst] :=
  ⟨_, rfl, rfl, readR8_writeR8 s dst v hdst, onlyR8_writeR8 s dst v hdst k⟩

/-- A load into A from an address. -/
theorem loadAFrom_spec (s : State) (a : Word) (k : Nat) :
    ∃ t, loadAFrom a k s = .next t ∧ t.cost = k ∧ t.cpu.a = s.busRead a ∧ OnlyR8 s t [.a] :=
  finish_writeR8 s (dst := .a) R8.noConfusion (s.busRead a) k

/-- A store of a byte. -/
theorem finish_busWrite (s : State) (a : Word) (v : Byte) (k : Nat) :
    ∃ t, finish (s.busWrite a v) k = .next t ∧ t.cost = k ∧ t.cpu = s.cpu ∧ OnlyStore s t a v :=
  ⟨_, rfl, rfl, busWrite_cpu s a v, onlyStore_of_eq rfl⟩

/-- Settles O10: `exec` of either form is a register write, whose result and frame `finish_writeR8` gives. -/
theorem loadRegister : Obligations.LoadRegister := by
  refine ⟨fun dst r s hdst => ⟨encode_ldR8R8 dst r, ?_⟩, fun dst n s hdst => ⟨encode_ldR8N8 dst n, ?_⟩⟩
  · rw [exec_ldR8R8 dst r s (.inl hdst)]
    simp only [hdst, false_or]
    exact finish_writeR8 s hdst (s.readR8 r) _
  · rw [exec_ldR8N8, costOf_register hdst]
    exact finish_writeR8 s hdst n 2

/-- Settles O11: both forms are one bus write at HL (`finish_busWrite`). -/
theorem storeAtHl : Obligations.StoreAtHl := by
  refine ⟨fun r s hr => ⟨encode_ldR8R8 .atHl r, ?_⟩, fun n s => ⟨rfl, finish_busWrite s s.hl n 3⟩⟩
  rw [exec_ldR8R8 .atHl r s (.inr hr), if_pos (.inl rfl)]
  exact finish_busWrite s s.hl (s.readR8 r) 2

/-- Settles O13: the loads and stores of A at the instruction's own address, the high page's in whole numbers
(`highPage_eq`). -/
theorem loadAndStoreAAbsolute : Obligations.LoadAndStoreAAbsolute := by
  refine ⟨fun a n s => ⟨⟨rfl, loadAFrom_spec s a 4⟩, ⟨rfl, ?_⟩, rfl, ?_⟩,
    fun a n s => ⟨⟨rfl, finish_busWrite s a s.cpu.a 4⟩, ⟨rfl, ?_⟩, rfl, ?_⟩⟩
  · rw [← highPage_eq]; exact loadAFrom_spec s (highPage n) 3
  · rw [← highPage_eq]; exact loadAFrom_spec s (highPage s.cpu.c) 2
  · rw [← highPage_eq]; exact finish_busWrite s (highPage n) s.cpu.a 3
  · rw [← highPage_eq]; exact finish_busWrite s (highPage s.cpu.c) s.cpu.a 2

/-! ### The indirect forms (30_encoding.md R167) -/

/-- HL after the update that an indirect form makes. -/
def hlAfter (s : State) (m : Ind) : Word :=
  match m with
  | .bc | .de => s.hl
  | .hlInc => s.hl + 1
  | .hlDec => s.hl - 1

theorem setHl_hl_self (s : State) : s.setHl s.hl = s := by
  simp only [State.setHl, State.hl, hi_cat, lo_cat]

theorem indUpdate_eq (s : State) (m : Ind) : s.indUpdate m = s.setHl (hlAfter s m) := by
  cases m with
  | bc | de => exact (setHl_hl_self s).symm
  | hlInc | hlDec => rfl

theorem hlAfter_congr {s t : State} (h : t.cpu = s.cpu) (m : Ind) : hlAfter t m = hlAfter s m := by
  cases m <;> simp only [hlAfter, State.hl, h]

theorem loadAInd_eq (m : Ind) (s : State) :
    loadAInd m s = finish ((s.setA (s.busRead (s.indAddr m))).setHl (hlAfter s m)) 2 := by
  rw [loadAInd, indUpdate_eq]
  cases m <;> rfl

theorem storeAInd_eq (m : Ind) (s : State) :
    storeAInd m s = finish ((s.busWrite (s.indAddr m) s.cpu.a).setHl (hlAfter s m)) 2 := by
  rw [storeAInd, indUpdate_eq, hlAfter_congr (busWrite_cpu s _ _)]

/-- A load into A from an indirect address, and the update of HL. -/
theorem loadAInd_spec (m : Ind) (s : State) :
    ∃ t, loadAInd m s = .next t ∧ t.cost = 2 ∧ OnlyR8 s t [.a, .h, .l] ∧
      t.cpu.a = s.busRead (s.indAddr m) ∧ t.hl = hlAfter s m := by
  refine ⟨_, loadAInd_eq m s, rfl, ⟨?_, rfl, rfl, rfl, rfl, fun _ => rfl⟩, rfl, setHl_hl _ _⟩
  exact keepsR8_trans (keepsR8_setA s _) (keepsR8_setHl _ _)

/-- A store of A to an indirect address, and the update of HL. -/
theorem storeAInd_spec (m : Ind) (s : State) :
    ∃ t, storeAInd m s = .next t ∧ t.cost = 2 ∧
      KeepsR8 s t [.h, .l] ∧ t.cpu.f = s.cpu.f ∧ t.cpu.sp = s.cpu.sp ∧ t.cpu.pc = s.cpu.pc ∧
      t.hl = hlAfter s m ∧ OnlyStore s t (s.indAddr m) s.cpu.a := by
  have hcpu : (s.busWrite (s.indAddr m) s.cpu.a).cpu = s.cpu := busWrite_cpu s _ _
  have hkeeps := keepsR8_trans (keepsR8_of_cpu_eq hcpu) (keepsR8_setHl _ (hlAfter s m))
  exact ⟨_, storeAInd_eq m s, rfl, hkeeps, by simp, by simp, by simp, setHl_hl _ _, onlyStore_of_eq rfl⟩

/-- Settles O12: the access and the update of HL (`loadAInd_spec`, `storeAInd_spec`), read off form by form. -/
theorem loadAndStoreAIndirect : Obligations.LoadAndStoreAIndirect := by
  refine ⟨fun m s => ⟨encode_ldAInd m, ?_⟩, fun m s => ⟨encode_ldIndA m, ?_⟩⟩
  · obtain ⟨t, ht, hcost, honly, ha, hhl⟩ := loadAInd_spec m s
    rw [exec_ldAInd]
    refine ⟨t, ht, hcost, honly, ?_⟩
    cases m <;> exact ⟨ha, hhl⟩
  · obtain ⟨t, ht, hcost, hkeeps, hf, hsp, hpc, hhl, hstore⟩ := storeAInd_spec m s
    rw [exec_ldIndA]
    refine ⟨t, ht, hcost, hkeeps, hf, hsp, hpc, ?_⟩
    cases m <;> exact ⟨hhl, hstore⟩

/-! ### Pairs -/

theorem hi_eq_ofNat (v : Word) : hi v = BitVec.ofNat 8 (v.toNat / 256) := by
  rw [← hi_toNat, BitVec.ofNat_toNat, BitVec.setWidth_eq]

theorem lo_eq_ofNat (v : Word) : lo v = BitVec.ofNat 8 (v.toNat % 256) := by
  rw [← lo_toNat, BitVec.ofNat_toNat, BitVec.setWidth_eq]

/-- A load into a pair. -/
theorem finish_writeRR (s : State) (r : RR) (v : Word) (k : Nat) :
    ∃ t, finish (s.writeRR r v) k = .next t ∧ t.cost = k ∧ t.readRR r = v ∧ OnlyRR s t [r] :=
  ⟨_, rfl, rfl, readRR_writeRR s r v, onlyRR_writeRR s r v k⟩

/-- A store of a word, low byte first (00_scope.md R16). -/
theorem finish_busWrite16 (s : State) (a v : Word) (k : Nat) :
    ∃ t, finish (s.busWrite16 a v) k = .next t ∧ t.cost = k ∧ t.cpu = s.cpu ∧
      OnlyStores s t a (lo v) (a + 1) (hi v) := by
  refine ⟨_, rfl, rfl, ?_, onlyStores_of_eq (.inl rfl) rfl⟩
  rw [withCost_cpu, State.busWrite16, busWrite_cpu, busWrite_cpu]

/-- Settles O14: the loads are writes of a pair (`finish_writeRR`), LD (a16),SP the store of a word. -/
theorem loadAndStorePairs : Obligations.LoadAndStorePairs := by
  refine ⟨⟨fun r v s => ⟨encode_ldRrN16 r v, ?_⟩, fun s => ⟨rfl, finish_writeRR s .sp s.hl 2⟩⟩,
    fun a s => ⟨rfl, ?_⟩⟩
  · rw [exec_ldRrN16]
    exact finish_writeRR s r v 3
  · rw [← hi_eq_ofNat, ← lo_eq_ofNat]
    exact finish_busWrite16 s a s.cpu.sp 5

/-! ### PUSH and POP -/

theorem lo_readQQ_af (s : State) : lo (s.readQQ .af) = s.cpu.f := lo_cat s.cpu.a s.cpu.f

/-- A push of a pair, as `callTo_spec` says it of a call. -/
theorem pushQQ_spec (q : QQ) (s : State) :
    ∃ t, pushQQ q s = .next t ∧ t.cost = 4 ∧ t.cpu = { s.cpu with sp := s.cpu.sp - 2 } ∧
      OnlyStores s t (s.cpu.sp - 1) (hi (s.readQQ q)) (s.cpu.sp - 2) (lo (s.readQQ q)) := by
  refine ⟨_, rfl, rfl, push16_cpu s _, ?_⟩
  rw [push16_eq]
  exact onlyStores_of_eq (.inr (sub_two_eq _)) rfl

/-- Settles O15: the push is two bus writes below SP (`pushQQ_spec`), and the low byte of AF is F. -/
theorem pushStoresPair : Obligations.PushStoresPair := by
  intro q s
  obtain ⟨t, ht, hcost, hcpu, hstores⟩ := pushQQ_spec q s
  rw [exec_push]
  refine ⟨encode_push q, t, ht, hcost, hcpu, hstores, fun hq hf => ?_⟩
  rw [hq, lo_readQQ_af, hf]

/-- Dropping the low nibble of a word's low byte. -/
theorem cat_hi_lo_and_F0 (v : Word) : cat (hi v) (lo v &&& 0xF0) = v &&& 0xFFF0 := by
  have hhi : hi v &&& 0xFF = hi v := BitVec.and_allOnes
  calc cat (hi v) (lo v &&& 0xF0) = cat (hi v &&& 0xFF) (lo v &&& 0xF0) := by rw [hhi]
    _ = cat (hi v) (lo v) &&& cat 0xFF 0xF0 := BitVec.and_append.symm
    _ = v &&& 0xFFF0 := by rw [cat_hi_lo]; rfl

/-- AF is the one pair that a write masks (10_state.md R42). -/
theorem readQQ_writeQQ (s : State) (q : QQ) (v : Word) :
    (s.writeQQ q v).readQQ q = v &&& (if q = .af then 0xFFF0 else 0xFFFF) := by
  have hall : v &&& 0xFFFF = v := BitVec.and_allOnes
  cases q with
  | bc | de | hl => exact (cat_hi_lo v).trans hall.symm
  | af => exact cat_hi_lo_and_F0 v

theorem readQQ_writeQQ_of_ne (s : State) {q q' : QQ} (h : q' ≠ q) (v : Word) :
    (s.writeQQ q v).readQQ q' = s.readQQ q' := by
  cases q with
  | bc => cases q' with | bc => exact absurd rfl h | de | hl | af => rfl
  | de => cases q' with | de => exact absurd rfl h | bc | hl | af => rfl
  | hl => cases q' with | hl => exact absurd rfl h | bc | de | af => rfl
  | af => cases q' with | af => exact absurd rfl h | bc | de | hl => rfl

@[simp] theorem writeQQ_sp (s : State) (q : QQ) (v : Word) : (s.writeQQ q v).cpu.sp = s.cpu.sp := by cases q <;> rfl

@[simp] theorem writeQQ_pc (s : State) (q : QQ) (v : Word) : (s.writeQQ q v).cpu.pc = s.cpu.pc := by cases q <;> rfl

theorem writeQQ_only (s : State) (q : QQ) (v : Word) : s.writeQQ q v = { s with cpu := (s.writeQQ q v).cpu } := by
  cases q <;> rfl

theorem onlyCpu_withCpu (s : State) (c : Cpu) (k : Nat) : OnlyCpu s { s with cpu := c, cost := k } :=
  ⟨rfl, fun _ => rfl⟩

/-- A pop changes the registers alone. -/
theorem onlyCpu_popQQ (s : State) (q : QQ) (v : Word) (k : Nat) :
    OnlyCpu s ((s.dropStack.writeQQ q v).withCost k) := by
  rw [writeQQ_only]
  exact onlyCpu_withCpu s _ k

/-- Settles O16: the pop writes the word at SP to the pair (`readQQ_writeQQ`), and that write keeps the other pairs, SP
and PC. -/
theorem popLoadsPair : Obligations.PopLoadsPair := by
  intro q s
  rw [exec_pop]
  exact ⟨encode_pop q, _, rfl, rfl, writeQQ_sp _ q _, writeQQ_pc _ q _, readQQ_writeQQ _ q _,
    fun q' h => readQQ_writeQQ_of_ne _ h _, onlyCpu_popQQ s q _ 3⟩

end Sys2Proof.Proofs

/-! The 8-bit arithmetic (41_alu8.md R240 to R281): what the shared operations leave in A, in the flags and unchanged,
said once for each shape, and the statements about the instructions assembled from them. -/

namespace Sys2Proof.Proofs

open Sys2Proof.Machine Sys2Proof.Bits Sys2Proof.Laws

/-! ### The ALU operations on A (30_encoding.md R168) -/

theorem exec_aluR8_eq_finish (op : AluOp) (r : R8) (s : State) :
    exec (Instr.aluR8 op r) s = finish (s.applyAlu op (s.readR8 r)) (if r = .atHl then 2 else 1) := by
  rw [exec_aluR8, aluR8, costOf_12]

/-- CP is the one operation that does not store its result (41_alu8.md R271). -/
theorem applyAlu_of_ne_cp (s : State) {op : AluOp} (hop : op ≠ .cp) (v : Byte) :
    let x := aluFun op s.cpu.a v s.flagC
    s.applyAlu op v = (s.setFlags x.z (aluN op) x.h x.c).setA x.r := by
  cases op with
  | cp => exact absurd rfl hop
  | add | adc | sub | sbc | and | xor | or => rfl

/-- An operation that stores its result x in A. -/
theorem finish_applyAlu (s : State) {op : AluOp} (hop : op ≠ .cp) {v : Byte} {x : AluResult}
    (hx : aluFun op s.cpu.a v s.flagC = x) (k : Nat) :
    ∃ t, finish (s.applyAlu op v) k = .next t ∧ t.cost = k ∧ t.cpu.a = x.r ∧
      FlagsAre t x.z (aluN op) x.h x.c ∧ OnlyR8F s t [.a] := by
  subst hx
  rw [applyAlu_of_ne_cp s hop v]
  exact ⟨_, rfl, rfl, rfl, flagsAre_setA_of_eq s _ k rfl rfl rfl rfl, onlyR8F_setFlags_setA s _ _ _ _ _ k⟩

/-! ### ADD and ADC -/

theorem addFlags_of_add8 {t : State} {a b : Byte} {c : Bool}
    (h : FlagsAre t (add8 a b c).z false (add8 a b c).h (add8 a b c).c) :
    AddFlags t a.toNat b.toNat c.toNat := by
  rwa [add8_z, add8_h, add8_c] at h

/-- An addition with carry-in c; ADD is the one with c = 0. -/
theorem finish_applyAlu_add8 (s : State) {op : AluOp} {v : Byte} {c : Bool}
    (hfun : aluFun op s.cpu.a v s.flagC = add8 s.cpu.a v c) (hop : op = .add ∨ op = .adc) (k : Nat) :
    ∃ t, finish (s.applyAlu op v) k = .next t ∧ t.cost = k ∧
      t.cpu.a.toNat = (s.cpu.a.toNat + v.toNat + c.toNat) % 256 ∧
      AddFlags t s.cpu.a.toNat v.toNat c.toNat ∧ OnlyR8F s t [.a] := by
  have hcp : op ≠ .cp := by rcases hop with rfl | rfl <;> exact AluOp.noConfusion
  have hn : aluN op = false := by rcases hop with rfl | rfl <;> rfl
  obtain ⟨t, ht, hcost, ha, hflags, honly⟩ := finish_applyAlu s hcp hfun k
  rw [hn] at hflags
  exact ⟨t, ht, hcost, by rw [ha, add8_r], addFlags_of_add8 hflags, honly⟩

/-- Settles O17: each form is an addition with the carry-in it names (`finish_applyAlu_add8`). -/
theorem addWithCarry : Obligations.AddWithCarry := by
  intro r n s
  refine ⟨⟨encode_aluR8 .add r, ?_⟩, ⟨rfl, finish_applyAlu_add8 s (c := false) rfl (.inl rfl) 2⟩,
    ⟨encode_aluR8 .adc r, ?_⟩, ⟨rfl, finish_applyAlu_add8 s (c := s.flagC) rfl (.inr rfl) 2⟩⟩
  · rw [exec_aluR8_eq_finish]
    exact finish_applyAlu_add8 s (c := false) rfl (.inl rfl) _
  · rw [exec_aluR8_eq_finish]
    exact finish_applyAlu_add8 s (c := s.flagC) rfl (.inr rfl) _

/-! ### SUB, SBC and CP -/

theorem subFlags_of_sub8 {t : State} {a b : Byte} {c : Bool}
    (h : FlagsAre t (sub8 a b c).z true (sub8 a b c).h (sub8 a b c).c) :
    SubFlags t a.toNat b.toNat c.toNat := by
  rwa [sub8_z, sub8_h, sub8_c] at h

/-- A subtraction with borrow-in c. -/
theorem finish_applyAlu_sub8 (s : State) {op : AluOp} {v : Byte} {c : Bool}
    (hfun : aluFun op s.cpu.a v s.flagC = sub8 s.cpu.a v c) (hop : op = .sub ∨ op = .sbc) (k : Nat) :
    ∃ t, finish (s.applyAlu op v) k = .next t ∧ t.cost = k ∧
      (t.cpu.a.toNat : Int) = ((s.cpu.a.toNat : Int) - v.toNat - c.toNat) % 256 ∧
      SubFlags t s.cpu.a.toNat v.toNat c.toNat ∧ OnlyR8F s t [.a] := by
  have hcp : op ≠ .cp := by rcases hop with rfl | rfl <;> exact AluOp.noConfusion
  have hn : aluN op = true := by rcases hop with rfl | rfl <;> rfl
  obtain ⟨t, ht, hcost, ha, hflags, honly⟩ := finish_applyAlu s hcp hfun k
  rw [hn] at hflags
  exact ⟨t, ht, hcost, by rw [ha, sub8_r], subFlags_of_sub8 hflags, honly⟩

/-- SUB is the subtraction with borrow-in 0 (41_alu8.md R256). -/
theorem finish_applyAlu_sub (s : State) (v : Byte) (k : Nat) :
    ∃ t, finish (s.applyAlu .sub v) k = .next t ∧ t.cost = k ∧
      (t.cpu.a.toNat : Int) = ((s.cpu.a.toNat : Int) - v.toNat) % 256 ∧
      SubFlags t s.cpu.a.toNat v.toNat 0 ∧ OnlyR8F s t [.a] := by
  simpa only [Bool.toNat_false, Int.natCast_zero, Int.sub_zero] using
    finish_applyAlu_sub8 s (v := v) (c := false) rfl (.inl rfl) k

/-- Settles O18: each form is a subtraction with the borrow-in it names (`finish_applyAlu_sub8`). -/
theorem subtractWithBorrow : Obligations.SubtractWithBorrow := by
  intro r n s
  refine ⟨⟨encode_aluR8 .sub r, ?_⟩, ⟨rfl, finish_applyAlu_sub s n 2⟩,
    ⟨encode_aluR8 .sbc r, ?_⟩, ⟨rfl, finish_applyAlu_sub8 s (c := s.flagC) rfl (.inr rfl) 2⟩⟩
  · rw [exec_aluR8_eq_finish]
    exact finish_applyAlu_sub s _ _
  · rw [exec_aluR8_eq_finish]
    exact finish_applyAlu_sub8 s (c := s.flagC) rfl (.inr rfl) _

/-- A write of the flags alone. -/
theorem finish_setFlags (s : State) (z n h c : Bool) (k : Nat) :
    ∃ t, finish (s.setFlags z n h c) k = .next t ∧ t.cost = k ∧ FlagsAre t z n h c ∧ OnlyR8F s t [] :=
  ⟨_, rfl, rfl, flagsAre_setFlags s z n h c, onlyR8F_setFlags s z n h c k⟩

/-- CP writes the flags of the subtraction (41_alu8.md R271). -/
theorem finish_applyAlu_cp (s : State) (v : Byte) (k : Nat) :
    ∃ t, finish (s.applyAlu .cp v) k = .next t ∧ t.cost = k ∧
      SubFlags t s.cpu.a.toNat v.toNat 0 ∧ OnlyR8F s t [] := by
  obtain ⟨t, ht, hcost, hflags, honly⟩ := finish_setFlags s _ _ _ _ k
  exact ⟨t, ht, hcost, subFlags_of_sub8 (c := false) hflags, honly⟩

/-- Settles O20: both forms write the flags of the subtraction (`finish_applyAlu_cp`). -/
theorem compareSetsFlags : Obligations.CompareSetsFlags := by
  intro r n s
  refine ⟨⟨encode_aluR8 .cp r, ?_⟩, ⟨rfl, finish_applyAlu_cp s n 2⟩⟩
  rw [exec_aluR8_eq_finish]
  exact finish_applyAlu_cp s _ _

/-! ### AND, XOR and OR -/

/-- The result of a logical operation (41_alu8.md R242 to R244). -/
def logicResult (op : AluOp) (a v : Byte) : Byte :=
  if op = .and then a &&& v else if op = .xor then a ^^^ v else a ||| v

/-- Only AND sets H. -/
theorem aluFun_logic {op : AluOp} (hop : op = .and ∨ op = .xor ∨ op = .or) (a v : Byte) (c : Bool) :
    aluFun op a v c = { r := logicResult op a v, z := decide (logicResult op a v = 0), h := decide (op = .and),
                        c := false } := by
  rcases hop with rfl | rfl | rfl <;> rfl

theorem finish_applyAlu_logic (s : State) {op : AluOp} (hop : op = .and ∨ op = .xor ∨ op = .or) (v : Byte) (k : Nat) :
    ∃ t, finish (s.applyAlu op v) k = .next t ∧ t.cost = k ∧ t.cpu.a = logicResult op s.cpu.a v ∧
      FlagsAre t (decide (logicResult op s.cpu.a v = 0)) false (decide (op = .and)) false ∧ OnlyR8F s t [.a] := by
  have hcp : op ≠ .cp := by rcases hop with rfl | rfl | rfl <;> exact AluOp.noConfusion
  have hn : aluN op = false := by rcases hop with rfl | rfl | rfl <;> rfl
  have h := finish_applyAlu s hcp (aluFun_logic hop _ v _) k
  rw [hn] at h
  exact h

theorem encode_aluN8 (op : AluOp) (n : Byte) :
    encode (Instr.aluN8 op n) = [BitVec.ofNat 8 (0xC6 + 8 * op.code), n] := by
  cases op <;> rfl

/-- Settles O19: both forms store the result of the operation (`finish_applyAlu_logic`). -/
theorem logicalOperations : Obligations.LogicalOperations := by
  intro op r n s hop
  refine ⟨⟨encode_aluR8 op r, ?_⟩, encode_aluN8 op n, ?_⟩
  · rw [exec_aluR8_eq_finish]
    exact finish_applyAlu_logic s hop _ _
  · rw [exec_aluN8]
    exact finish_applyAlu_logic s hop n 2

/-! ### INC and DEC -/

theorem flagsAre_of_inc8 {t : State} {v : Byte} {c : Bool}
    (h : FlagsAre t (inc8 v c).z false (inc8 v c).h (inc8 v c).c) :
    FlagsAre t (decide (v.toNat = 255)) false (decide (v.toNat % 16 = 15)) c := by
  rwa [inc8_z, inc8_h] at h

theorem flagsAre_of_dec8 {t : State} {v : Byte} {c : Bool}
    (h : FlagsAre t (dec8 v c).z true (dec8 v c).h (dec8 v c).c) :
    FlagsAre t (decide (v.toNat = 1)) true (decide (v.toNat % 16 = 0)) c := by
  rwa [dec8_z, dec8_h] at h

theorem inc8_r_eq_ofNat (v : Byte) (c : Bool) : (inc8 v c).r = BitVec.ofNat 8 (v.toNat + 1) :=
  BitVec.eq_of_toNat_eq (by rw [inc8_r, BitVec.toNat_ofNat])

theorem dec8_r_eq_ofNat (v : Byte) (c : Bool) : (dec8 v c).r = BitVec.ofNat 8 (v.toNat + 255) :=
  BitVec.eq_of_toNat_eq (by rw [dec8_r, BitVec.toNat_ofNat])

/-- A write of a register and of the flags. -/
theorem finish_writeR8_setFlags (s : State) {dst : R8} (hdst : dst ≠ .atHl) (v : Byte) (z n h c : Bool) (k : Nat) :
    ∃ t, finish ((s.writeR8 dst v).setFlags z n h c) k = .next t ∧ t.cost = k ∧ t.readR8 dst = v ∧
      FlagsAre t z n h c ∧ OnlyR8F s t [dst] :=
  ⟨_, rfl, rfl, readR8_writeR8_setFlags s dst v hdst z n h c k, flagsAre_setFlags _ z n h c,
    onlyR8F_writeR8 s dst v hdst z n h c k⟩

/-- A store of a byte and a write of the flags. -/
theorem finish_busWrite_setFlags (s : State) (a : Word) (v : Byte) (z n h c : Bool) (k : Nat) :
    ∃ t, finish ((s.busWrite a v).setFlags z n h c) k = .next t ∧ t.cost = k ∧ OnlyStore s t a v ∧
      FlagsAre t z n h c ∧ t.cpu = { s.cpu with f := t.cpu.f } := by
  refine ⟨_, rfl, rfl, onlyStore_of_eq rfl, flagsAre_setFlags _ z n h c, ?_⟩
  rw [withCost_cpu, State.setFlags, busWrite_cpu]

theorem incR8_register_spec (s : State) {dst : R8} (hdst : dst ≠ .atHl) :
    ∃ t, incR8 dst s = .next t ∧ t.cost = 1 ∧ (t.readR8 dst).toNat = ((s.readR8 dst).toNat + 1) % 256 ∧
      FlagsAre t (decide ((s.readR8 dst).toNat = 255)) false (decide ((s.readR8 dst).toNat % 16 = 15)) s.flagC ∧
      OnlyR8F s t [dst] := by
  rw [incR8, costOf_register hdst]
  obtain ⟨t, ht, hcost, hread, hflags, honly⟩ := finish_writeR8_setFlags s hdst _ _ _ _ _ 1
  exact ⟨t, ht, hcost, by rw [hread, inc8_r], flagsAre_of_inc8 hflags, honly⟩

theorem decR8_register_spec (s : State) {dst : R8} (hdst : dst ≠ .atHl) :
    ∃ t, decR8 dst s = .next t ∧ t.cost = 1 ∧ (t.readR8 dst).toNat = ((s.readR8 dst).toNat + 255) % 256 ∧
      FlagsAre t (decide ((s.readR8 dst).toNat = 1)) true (decide ((s.readR8 dst).toNat % 16 = 0)) s.flagC ∧
      OnlyR8F s t [dst] := by
  rw [decR8, costOf_register hdst]
  obtain ⟨t, ht, hcost, hread, hflags, honly⟩ := finish_writeR8_setFlags s hdst _ _ _ _ _ 1
  exact ⟨t, ht, hcost, by rw [hread, dec8_r], flagsAre_of_dec8 hflags, honly⟩

theorem encode_incR8 (dst : R8) : encode (Instr.incR8 dst) = [BitVec.ofNat 8 (0x04 + 8 * dst.code)] := by
  cases dst <;> rfl

theorem encode_decR8 (dst : R8) : encode (Instr.decR8 dst) = [BitVec.ofNat 8 (0x05 + 8 * dst.code)] := by
  cases dst <;> rfl

/-- Settles O21: a register form writes the register and the flags (`finish_writeR8_setFlags`), a form on the byte at HL
makes one store and writes the flags (`finish_busWrite_setFlags`). -/
theorem incrementAndDecrement : Obligations.IncrementAndDecrement := by
  refine ⟨fun dst s hdst => ⟨⟨encode_incR8 dst, ?_⟩, encode_decR8 dst, ?_⟩, fun s => ⟨⟨rfl, ?_⟩, rfl, ?_⟩⟩
  · rw [exec_incR8]
    exact incR8_register_spec s hdst
  · rw [exec_decR8]
    exact decR8_register_spec s hdst
  · obtain ⟨t, ht, hcost, hstore, hflags, hcpu⟩ := finish_busWrite_setFlags s s.hl _ _ _ _ _ 3
    exact ⟨t, ht, hcost, inc8_r_eq_ofNat _ _ ▸ hstore, flagsAre_of_inc8 hflags, hcpu⟩
  · obtain ⟨t, ht, hcost, hstore, hflags, hcpu⟩ := finish_busWrite_setFlags s s.hl _ _ _ _ _ 3
    exact ⟨t, ht, hcost, dec8_r_eq_ofNat _ _ ▸ hstore, flagsAre_of_dec8 hflags, hcpu⟩

/-! ### DAA, CPL, SCF and CCF -/

/-- The correction of the low digit (41_alu8.md R247). -/
def daaLow (a : Nat) (n h : Bool) : Int := if h = true ∨ (n = false ∧ a % 16 > 9) then 6 else 0

/-- The decimal carry (41_alu8.md R247). -/
def daaCarry (a : Nat) (n c : Bool) : Bool := decide (c = true ∨ (n = false ∧ a > 0x99))

/-- The correction of the high digit (41_alu8.md R247). -/
def daaHigh (a : Nat) (n c : Bool) : Int := if daaCarry a n c = true then 0x60 else 0

/-- The corrected number, before it wraps to a byte. -/
def daaNumber (a : Nat) (n h c : Bool) : Int :=
  if n then (a : Int) - daaHigh a n c - daaLow a n h else a + daaHigh a n c + daaLow a n h

/-- DAA's result in whole numbers: after a subtraction only C and H decide the adjustment (41_alu8.md R247). -/
theorem daa_r (a : Byte) (n h c : Bool) : ((daa a n h c).r.toNat : Int) = daaNumber a.toNat n h c % 256 := by
  have ha := a.isLt
  cases n with
  | true =>
    simp only [daa, daaNumber, daaHigh, daaLow, daaCarry, Bool.true_eq_false, false_and, or_false, if_true,
      decide_eq_true_eq]
    by_cases hlow : h = true
    all_goals by_cases hhigh : c = true
    all_goals
      simp only [hlow, hhigh, if_true, if_false, Bool.false_eq_true]
      bv_omega
  | false =>
    simp only [daa, daaNumber, daaHigh, daaLow, daaCarry, low_nibble_toNat, Bool.or_eq_true, decide_eq_true_eq,
      true_and, Bool.false_eq_true, if_false]
    by_cases hlow : h = true ∨ a.toNat % 16 > 9
    all_goals by_cases hhigh : c = true ∨ a.toNat > 0x99
    all_goals
      simp only [hlow, hhigh, if_true, if_false]
      bv_omega

theorem daa_z_eq (a : Byte) (n h c : Bool) : (daa a n h c).z = decide (daaNumber a.toNat n h c % 256 = 0) := by
  rw [daa_z, beq_zero_eq, ← daa_r, decide_eq_decide]
  exact Int.natCast_eq_zero.symm

/-- DAA writes the corrected number to A and its carry to C (41_alu8.md R278). -/
theorem exec_daa_spec (s : State) :
    ∃ t, exec .daa s = .next t ∧ t.cost = 1 ∧
      (t.cpu.a.toNat : Int) = daaNumber s.cpu.a.toNat s.flagN s.flagH s.flagC % 256 ∧
      FlagsAre t (decide (daaNumber s.cpu.a.toNat s.flagN s.flagH s.flagC % 256 = 0)) s.flagN false
        (daaCarry s.cpu.a.toNat s.flagN s.flagC) ∧
      OnlyR8F s t [.a] :=
  ⟨_, rfl, rfl, daa_r _ _ _ _, flagsAre_of_eq _ 1 (daa_z_eq _ _ _ _) rfl (daa_h _ _ _ _) (daa_c _ _ _ _),
    onlyR8F_writeR8 s .a _ R8.noConfusion _ _ _ _ 1⟩

/-- CPL complements every bit of A (41_alu8.md R279). -/
theorem exec_cpl_spec (s : State) :
    ∃ t, exec .cpl s = .next t ∧ t.cost = 1 ∧ t.cpu.a.toNat = 255 - s.cpu.a.toNat ∧
      FlagsAre t s.flagZ true true s.flagC ∧ OnlyR8F s t [.a] :=
  ⟨_, rfl, rfl, BitVec.toNat_not, flagsAre_setFlags _ _ _ _ _, onlyR8F_writeR8 s .a _ R8.noConfusion _ _ _ _ 1⟩

/-- Settles O22: DAA and CPL write A and the flags (`exec_daa_spec`, `exec_cpl_spec`), SCF and CCF the flags alone
(`finish_setFlags`). -/
theorem decimalAdjustAndFlagOperations : Obligations.DecimalAdjustAndFlagOperations := fun s =>
  ⟨⟨rfl, exec_daa_spec s⟩, ⟨rfl, exec_cpl_spec s⟩, ⟨rfl, finish_setFlags s _ _ _ _ 1⟩, rfl, finish_setFlags s _ _ _ _ 1⟩

/-! ### Decimal addition -/

section DecimalDigits

variable {x1 x0 y1 y0 cin v : Nat} (hx0 : x0 < 10) (hy0 : y0 < 10) (hcin : cin ≤ 1)
  (hv : v = 16 * x1 + x0 + (16 * y1 + y0) + cin)
include hx0 hy0 hcin hv

/-- DAA corrects the low digit of a sum when the decimal digits carry: the half-carry or the nibble shows it. -/
theorem daaLow_of_digits :
    daaLow (v % 256) false (decide (x0 + y0 + cin > 15)) = if 10 ≤ x0 + y0 + cin then 6 else 0 := by
  simp only [daaLow, decide_eq_true_eq, true_and]
  have hcarry : (x0 + y0 + cin > 15 ∨ v % 256 % 16 > 9) ↔ 10 ≤ x0 + y0 + cin := by omega
  simp only [hcarry]

/-- DAA's carry after a sum is the decimal carry. -/
theorem daaCarry_of_digits :
    daaCarry (v % 256) false (decide (v > 255)) = decide (100 ≤ 10 * x1 + x0 + (10 * y1 + y0) + cin) := by
  simp only [daaCarry, decide_eq_true_eq, true_and, decide_eq_decide]
  omega

/-- The corrected number has the digits of the sum: the low correction carries into the tens, the high one drops the
hundred. -/
theorem daaNumber_of_digits (hx1 : x1 < 10) (hy1 : y1 < 10) {total : Nat}
    (htotal : total = 10 * x1 + x0 + (10 * y1 + y0) + cin) :
    daaNumber (v % 256) false (decide (x0 + y0 + cin > 15)) (decide (v > 255)) % 256 =
      ((16 * (total / 10 % 10) + total % 10 : Nat) : Int) := by
  rw [daaNumber, daaHigh, daaLow_of_digits hx0 hy0 hcin hv, daaCarry_of_digits hx0 hy0 hcin hv]
  simp only [Bool.false_eq_true, if_false, decide_eq_true_eq, ← htotal]
  have hdigits : (v : Int) + (if 10 ≤ x0 + y0 + cin then 6 else 0) = 16 * (total / 10 : Nat) + (total % 10 : Nat) := by
    split <;> omega
  have hwrap (high low : Int) : (((v % 256 : Nat) : Int) + high + low) % 256 = (v + low + high) % 256 := by omega
  rw [hwrap, hdigits]
  by_cases hhigh : 100 ≤ total
  · have htens : total / 10 = total / 10 % 10 + 10 := by omega
    rw [if_pos hhigh]
    omega
  · have htens : total / 10 = total / 10 % 10 := by omega
    rw [if_neg hhigh]
    omega

end DecimalDigits

/-- A byte of two decimal digits. -/
theorem digits_toNat {a : Byte} {x1 x0 : Nat} (hx1 : x1 < 10) (hx0 : x0 < 10) (ha : a = BitVec.ofNat 8 (16 * x1 + x0)) :
    a.toNat = 16 * x1 + x0 ∧ a.toNat % 16 = x0 := by
  rw [ha, BitVec.toNat_ofNat]
  omega

/-- Settles O23: ADC leaves the binary sum with its carries (`finish_applyAlu_add8`), which DAA corrects to the decimal
one (`daaNumber_of_digits`, `daaCarry_of_digits`). -/
theorem decimalAddition : Obligations.DecimalAddition := by
  intro s x1 x0 y1 y0 hx1 hx0 hy1 hy0 ha hb total
  have hcin := s.flagC.toNat_le
  obtain ⟨ha, halow⟩ := digits_toNat hx1 hx0 ha
  obtain ⟨hb, hblow⟩ := digits_toNat hy1 hy0 hb
  obtain ⟨t, ht, -, hta, ⟨-, hn, hh, hc, -⟩, -⟩ :=
    finish_applyAlu_add8 s (v := s.cpu.b) (c := s.flagC) rfl (.inr rfl) 1
  obtain ⟨u, hu, -, hua, ⟨-, -, -, huc, -⟩, -⟩ := exec_daa_spec t
  rw [hn, hc, hta, ha, hb] at huc
  rw [hn, hh, hc, hta, halow, hblow, ha, hb] at hua
  refine ⟨t, u, ht, hu, ?_, ?_⟩
  · exact Int.ofNat_inj.1 (hua.trans (daaNumber_of_digits hx0 hy0 hcin rfl hx1 hy1 rfl))
  · exact huc.trans (daaCarry_of_digits hx0 hy0 hcin rfl)

end Sys2Proof.Proofs

/-! The 16-bit arithmetic (42_alu16.md R300 to R304, and 40_load.md R223): what a write of a pair and of the flags
leaves, and the three statements assembled from it. -/

namespace Sys2Proof.Proofs

open Sys2Proof.Machine Sys2Proof.Bits Sys2Proof.Laws

/-! ### The bytes of the pair forms (30_encoding.md R164) -/

theorem encode_addHlRr (r : RR) : encode (Instr.addHlRr r) = [BitVec.ofNat 8 (0x09 + 16 * r.code)] := by
  cases r <;> rfl

theorem encode_incRr (r : RR) : encode (Instr.incRr r) = [BitVec.ofNat 8 (0x03 + 16 * r.code)] := by
  cases r <;> rfl

theorem encode_decRr (r : RR) : encode (Instr.decRr r) = [BitVec.ofNat 8 (0x0B + 16 * r.code)] := by
  cases r <;> rfl

/-! ### A write of a pair and of the flags -/

@[simp] theorem setFlags_readRR (s : State) (r : RR) (z n h c : Bool) :
    (s.setFlags z n h c).readRR r = s.readRR r := by
  cases r <;> rfl

@[simp] theorem withCost_readRR (s : State) (r : RR) (k : Nat) : (s.withCost k).readRR r = s.readRR r := by
  cases r <;> rfl

/-- A write of a pair, then of the flags. -/
theorem finish_writeRR_setFlags (s : State) (r : RR) (v : Word) (z n h c : Bool) (k : Nat) :
    ∃ t, finish ((s.writeRR r v).setFlags z n h c) k = .next t ∧ t.cost = k ∧ t.readRR r = v ∧
      FlagsAre t z n h c ∧ OnlyRRF s t [r] := by
  refine ⟨_, rfl, rfl, ?_, flagsAre_setFlags _ z n h c, onlyRRF_writeRR s r v z n h c k⟩
  rw [withCost_readRR, setFlags_readRR, readRR_writeRR]

/-! ### ADD HL,rr -/

theorem addHl16_c (a b : Word) : (addHl16 a b).2.2 = decide (a.toNat + b.toNat > 65535) := rfl

/-- The sum written to HL and its two carries to H and C, in whole numbers (42_alu16.md R300). -/
theorem addHlRR_spec (r : RR) (s : State) :
    ∃ t, addHlRR r s = .next t ∧ t.cost = 2 ∧ t.hl.toNat = (s.hl.toNat + (s.readRR r).toNat) % 65536 ∧
      FlagsAre t s.flagZ false (decide (s.hl.toNat % 4096 + (s.readRR r).toNat % 4096 > 4095))
        (decide (s.hl.toNat + (s.readRR r).toNat > 65535)) ∧
      OnlyRRF s t [.hl] := by
  rw [← addHl16_r, ← addHl16_h, ← addHl16_c]
  obtain ⟨t, ht, hcost, hhl, hflags, honly⟩ := finish_writeRR_setFlags s .hl _ _ _ _ _ 2
  exact ⟨t, ht, hcost, congrArg BitVec.toNat hhl, hflags, honly⟩

/-- Settles O24: `exec` of each form is the one addition to HL (`addHlRR_spec`). -/
theorem addToHl : Obligations.AddToHl := by
  intro r s a b
  rw [exec_addHlRr]
  exact ⟨encode_addHlRr r, addHlRR_spec r s⟩

/-! ### INC rr and DEC rr -/

/-- Settles O25: both forms are a write of the pair alone (`finish_writeRR`), and the decrement is the addition of
65535. -/
theorem incDecPair : Obligations.IncDecPair := by
  intro r s v
  refine ⟨⟨encode_incRr r, ?_⟩, encode_decRr r, ?_⟩
  · obtain ⟨t, ht, hcost, hread, honly⟩ := finish_writeRR s r (s.readRR r + 1) 2
    rw [exec_incRr]
    exact ⟨t, ht, hcost, (congrArg BitVec.toNat hread).trans (BitVec.toNat_add _ _), honly⟩
  · obtain ⟨t, ht, hcost, hread, honly⟩ := finish_writeRR s r (s.readRR r - 1) 2
    have hsub : (s.readRR r - 1).toNat = ((s.readRR r).toNat + 65535) % 65536 := by
      rw [BitVec.toNat_sub, Nat.add_comm]
      rfl
    rw [exec_decRr]
    exact ⟨t, ht, hcost, (congrArg BitVec.toNat hread).trans hsub, honly⟩

/-! ### ADD SP,e8 and LD HL,SP+e8 -/

/-- SP and a signed offset written to a pair, with the carries of the unsigned add of the low bytes in H and C
(42_alu16.md R303). -/
theorem finish_writeRR_addSpE8 (s : State) (r : RR) (e : Byte) (k : Nat) :
    ∃ t, finish ((s.writeRR r (s.cpu.sp + sext16 e)).setFlags false false (addSpE8Fun s.cpu.sp e).2.1
        (addSpE8Fun s.cpu.sp e).2.2) k = .next t ∧ t.cost = k ∧
      ((t.readRR r).toNat : Int) = ((s.cpu.sp.toNat : Int) + e.toInt) % 65536 ∧
      FlagsAre t false false (decide (s.cpu.sp.toNat % 16 + e.toNat % 16 > 15))
        (decide (s.cpu.sp.toNat % 256 + e.toNat > 255)) ∧
      OnlyRRF s t [r] := by
  obtain ⟨t, ht, hcost, hread, hflags, honly⟩ :=
    finish_writeRR_setFlags s r (s.cpu.sp + sext16 e) false false _ _ k
  exact ⟨t, ht, hcost, by rw [hread, add_sext16_toNat], hflags, honly⟩

/-- Settles O26: one operation (`finish_writeRR_addSpE8`), on SP for ADD SP,e8 and on HL for LD HL,SP+e8. -/
theorem stackPointerOffset : Obligations.StackPointerOffset := fun e s =>
  ⟨⟨rfl, finish_writeRR_addSpE8 s .sp e 4⟩, rfl, finish_writeRR_addSpE8 s .hl e 3⟩

end Sys2Proof.Proofs

/-! The rotates, shifts and SWAP (43_rotate_shift.md R320 to R349): the shift functions in whole numbers, and the three
statements assembled from the write, or the store, of their result. -/

namespace Sys2Proof.Proofs

open Sys2Proof.Machine Sys2Proof.Bits Sys2Proof.Laws

/-! ### The shift functions in whole numbers -/

theorem shiftFun_value (op : ShiftOp) (v : Byte) (c : Bool) :
    (shiftFun op v c).1.toNat = shiftValue op v.toNat c.toNat :=
  (shiftFun_spec op c v).1

theorem shiftFun_out (op : ShiftOp) (v : Byte) (c : Bool) : (shiftFun op v c).2 = shiftOut op v.toNat :=
  (shiftFun_spec op c v).2

theorem shiftFun_value_beq_zero (op : ShiftOp) (v : Byte) (c : Bool) :
    ((shiftFun op v c).1 == 0) = decide (shiftValue op v.toNat c.toNat = 0) := by
  rw [beq_zero_eq, shiftFun_value]

theorem shiftFun_value_eq_ofNat (op : ShiftOp) (v : Byte) (c : Bool) :
    (shiftFun op v c).1 = BitVec.ofNat 8 (shiftValue op v.toNat c.toNat) := by
  rw [← shiftFun_value, BitVec.ofNat_toNat, BitVec.setWidth_eq]

theorem shiftValue_lt (op : ShiftOp) (v : Byte) (c : Bool) : shiftValue op v.toNat c.toNat < 256 := by
  rw [← shiftFun_value]
  exact (shiftFun op v c).1.isLt

/-! ### The rotates of A -/

/-- A rotate of A clears Z whatever the result is. -/
theorem rotateA_spec (op : ShiftOp) (s : State) :
    ∃ t, rotateA op s = .next t ∧ t.cost = 1 ∧ t.cpu.a.toNat = shiftValue op s.cpu.a.toNat s.flagC.toNat ∧
      FlagsAre t false false false (shiftOut op s.cpu.a.toNat) ∧ OnlyR8F s t [.a] := by
  rw [← shiftFun_value, ← shiftFun_out op s.cpu.a s.flagC]
  obtain ⟨t, ht, hcost, ha, hflags, honly⟩ :=
    finish_writeR8_setFlags s (dst := .a) R8.noConfusion (shiftFun op s.cpu.a s.flagC).1 false false false _ 1
  exact ⟨t, ht, hcost, congrArg BitVec.toNat ha, hflags, honly⟩

/-- Settles O27: `exec` of each of the four is the one rotate of A (`rotateA_spec`). -/
theorem accumulatorRotates : Obligations.AccumulatorRotates := fun s =>
  ⟨⟨rfl, rotateA_spec .rlc s⟩, ⟨rfl, rotateA_spec .rrc s⟩, ⟨rfl, rotateA_spec .rl s⟩, rfl, rotateA_spec .rr s⟩

/-! ### The extended rotates, shifts and SWAP -/

/-- A rotate or shift writes its value and the flags, both in whole numbers. -/
theorem shiftR8_eq_finish (op : ShiftOp) (r : R8) (s : State) :
    shiftR8 op r s =
      finish ((s.writeR8 r (BitVec.ofNat 8 (shiftValue op (s.readR8 r).toNat s.flagC.toNat))).setFlags
        (decide (shiftValue op (s.readR8 r).toNat s.flagC.toNat = 0)) false false
        (shiftOut op (s.readR8 r).toNat)) (costOf r 2 4) := by
  rw [← shiftFun_value_eq_ofNat, ← shiftFun_value_beq_zero, ← shiftFun_out op (s.readR8 r) s.flagC]
  rfl

/-- Settles O28: `exec` of each form is a write of the register and of the flags (`finish_writeR8_setFlags`), and the
value written fits in the byte. -/
theorem rotatesAndShiftsOfRegister : Obligations.RotatesAndShiftsOfRegister := by
  intro op dst s hdst v r
  rw [exec_shift, shiftR8_eq_finish, costOf_register hdst]
  obtain ⟨t, ht, hcost, hread, hflags, honly⟩ := finish_writeR8_setFlags s hdst (BitVec.ofNat 8 r) _ _ _ _ 2
  have hvalue : (t.readR8 dst).toNat = r := by
    rw [hread, BitVec.toNat_ofNat, Nat.mod_eq_of_lt (shiftValue_lt op (s.readR8 dst) s.flagC)]
  exact ⟨encode_shift op dst, t, ht, hcost, hvalue, hflags, honly⟩

/-- Settles O29: `exec` of each form is one store at HL and a write of the flags (`finish_busWrite_setFlags`). -/
theorem rotatesAndShiftsOfMemory : Obligations.RotatesAndShiftsOfMemory := by
  intro op s v r
  rw [exec_shift, shiftR8_eq_finish]
  obtain ⟨t, ht, hcost, hstore, hflags, hcpu⟩ := finish_busWrite_setFlags s s.hl (BitVec.ofNat 8 r) _ _ _ _ 4
  have hlt : r < 256 := shiftValue_lt op (s.busRead s.hl) s.flagC
  exact ⟨encode_shift op .atHl, t, ht, hcost, hlt, hstore, hflags, hcpu⟩

end Sys2Proof.Proofs

/-! The single-bit instructions (44_bit.md R360 to R365): what BIT leaves in Z, and that RES and SET are one write of a
byte in which one bit has a given value. -/

namespace Sys2Proof.Proofs

open Sys2Proof.Machine Sys2Proof.Bits Sys2Proof.Laws

/-! ### BIT -/

theorem not_getLsbD_eq_decide (v : Byte) (i : Nat) : (!v.getLsbD i) = decide (v.toNat / 2 ^ i % 2 = 0) := by
  rw [getLsbD_eq_div, ← decide_not, decide_eq_decide]
  exact Nat.mod_two_ne_one

theorem costOf_eq_ite (r : R8) (reg mem : Nat) : costOf r reg mem = if r = .atHl then mem else reg := by
  cases r <;> rfl

/-- Settles O30: `exec` of BIT is a write of the flags alone (`finish_setFlags`), C being the one that `s` has. -/
theorem testBit : Obligations.TestBit := by
  intro b r s
  refine ⟨encode_bit b r, ?_⟩
  rw [exec_bit, bitR8, not_getLsbD_eq_decide, costOf_eq_ite]
  exact finish_setFlags s _ false true s.flagC _

/-! ### RES and SET -/

/-- `w` is `v` with bit b made x. -/
def BitMade (b : Fin 8) (x : Bool) (v w : Byte) : Prop :=
  ∀ j < 8, w.getLsbD j = if j = b.val then x else v.getLsbD j

theorem bitMade_res (b : Fin 8) (v : Byte) : BitMade b false v (v &&& ~~~(1#8 <<< b.val)) := getLsbD_clearBit v b

theorem bitMade_set (b : Fin 8) (v : Byte) : BitMade b true v (v ||| (1#8 <<< b.val)) :=
  Laws.getLsbD_setBit v b

/-- One bit of a register is made x. -/
theorem finish_writeR8_bitMade (s : State) {dst : R8} (hdst : dst ≠ .atHl) {b : Fin 8} {x : Bool} {w : Byte}
    (hw : BitMade b x (s.readR8 dst) w) :
    ∃ t, finish (s.writeR8 dst w) (costOf dst 2 4) = .next t ∧ t.cost = 2 ∧ OnlyR8 s t [dst] ∧
      BitMade b x (s.readR8 dst) (t.readR8 dst) := by
  rw [costOf_register hdst]
  obtain ⟨t, ht, hcost, hread, honly⟩ := finish_writeR8 s hdst w 2
  exact ⟨t, ht, hcost, honly, hread ▸ hw⟩

/-- One bit of the byte at HL is made x; the store happens whatever the bit was (R363, R365). -/
theorem finish_writeR8_atHl_bitMade (s : State) {b : Fin 8} {x : Bool} {w : Byte}
    (hw : BitMade b x (s.busRead s.hl) w) :
    ∃ t w', finish (s.writeR8 .atHl w) (costOf .atHl 2 4) = .next t ∧ t.cost = 4 ∧ t.cpu = s.cpu ∧
      OnlyStore s t s.hl w' ∧ BitMade b x (s.busRead s.hl) w' := by
  obtain ⟨t, ht, hcost, hcpu, hstore⟩ := finish_busWrite s s.hl w 4
  exact ⟨t, w, ht, hcost, hcpu, hstore, hw⟩

theorem encode_res_atHl (b : Fin 8) : encode (Instr.res b .atHl) = [0xCB, BitVec.ofNat 8 (0x86 + 8 * b.val)] := by
  rw [encode_res, Nat.add_right_comm]
  rfl

theorem encode_set_atHl (b : Fin 8) : encode (Instr.set b .atHl) = [0xCB, BitVec.ofNat 8 (0xC6 + 8 * b.val)] := by
  rw [encode_set, Nat.add_right_comm]
  rfl

/-- Settles O31: `exec` of RES and SET writes a byte with the one bit made 0 or 1, to the register
(`finish_writeR8_bitMade`) or as one store at HL (`finish_writeR8_atHl_bitMade`). -/
theorem resetAndSetBit : Obligations.ResetAndSetBit := by
  refine ⟨fun b dst s hdst => ⟨⟨encode_res b dst, ?_⟩, encode_set b dst, ?_⟩,
    fun b s => ⟨⟨encode_res_atHl b, ?_⟩, encode_set_atHl b, ?_⟩⟩
  · rw [exec_res]
    exact finish_writeR8_bitMade s hdst (bitMade_res b _)
  · rw [exec_set]
    exact finish_writeR8_bitMade s hdst (bitMade_set b _)
  · rw [exec_res]
    exact finish_writeR8_atHl_bitMade s (bitMade_res b _)
  · rw [exec_set]
    exact finish_writeR8_atHl_bitMade s (bitMade_set b _)

end Sys2Proof.Proofs

/-! Control transfer (45_control.md R381 to R391): what the shared operations of a jump, a call and a return do, said
once for each, and what a condition makes of two of them. -/

namespace Sys2Proof.Proofs

open Sys2Proof.Machine Sys2Proof.Bits Sys2Proof.Laws

/-! ### The bytes of the conditional forms and of RST (30_encoding.md R166, R171) -/

theorem encode_jpCc (cc : CC) (a : Word) :
    encode (Instr.jpCc cc a) = [BitVec.ofNat 8 (0xC2 + 8 * cc.code), lo a, hi a] := by
  cases cc <;> rfl

theorem encode_jrCc (cc : CC) (e : Byte) : encode (Instr.jrCc cc e) = [BitVec.ofNat 8 (0x20 + 8 * cc.code), e] := by
  cases cc <;> rfl

theorem encode_callCc (cc : CC) (a : Word) :
    encode (Instr.callCc cc a) = [BitVec.ofNat 8 (0xC4 + 8 * cc.code), lo a, hi a] := by
  cases cc <;> rfl

theorem encode_retCc (cc : CC) : encode (Instr.retCc cc) = [BitVec.ofNat 8 (0xC0 + 8 * cc.code)] := by
  cases cc <;> rfl

theorem encode_rst (y : Fin 8) : encode (Instr.rst y) = [BitVec.ofNat 8 (0xC7 + 8 * y.val)] := by
  match y with
  | 0 | 1 | 2 | 3 | 4 | 5 | 6 | 7 => rfl

/-! ### A condition between two outcomes (30_encoding.md R166) -/

/-- Each outcome brings its own property under its own condition. -/
theorem ite_cond_next (s : State) (cc : CC) {taken notTaken : Result} {P Q : State → Prop}
    (hP : ∃ t, taken = .next t ∧ P t) (hQ : ∃ t, notTaken = .next t ∧ Q t) :
    ∃ t, (if s.cond cc then taken else notTaken) = .next t ∧ (CondHolds s cc → P t) ∧ (¬ CondHolds s cc → Q t) := by
  by_cases hc : CondHolds s cc
  · obtain ⟨t, ht, hp⟩ := hP
    exact ⟨t, by rw [if_pos ((cond_iff s cc).2 hc), ht], fun _ => hp, fun hn => absurd hc hn⟩
  · obtain ⟨t, ht, hq⟩ := hQ
    exact ⟨t, by rw [if_neg (mt (cond_iff s cc).1 hc), ht], fun h => absurd h hc, fun _ => hq⟩

/-- As `ite_cond_next`, where neither outcome changes anything but the registers. -/
theorem ite_cond_onlyCpu (s : State) (cc : CC) {taken notTaken : Result} {k k' : Nat} {c c' : Cpu}
    (hP : ∃ t, taken = .next t ∧ t.cost = k ∧ t.cpu = c ∧ OnlyCpu s t)
    (hQ : ∃ t, notTaken = .next t ∧ t.cost = k' ∧ t.cpu = c' ∧ OnlyCpu s t) :
    ∃ t, (if s.cond cc then taken else notTaken) = .next t ∧ OnlyCpu s t ∧
      (CondHolds s cc → t.cost = k ∧ t.cpu = c) ∧ (¬ CondHolds s cc → t.cost = k' ∧ t.cpu = c') := by
  obtain ⟨t, ht, hp, hq⟩ := ite_cond_next s cc hP hQ
  refine ⟨t, ht, ?_, fun hc => ?_, fun hc => ?_⟩
  · by_cases hc : CondHolds s cc
    · obtain ⟨-, -, honly⟩ := hp hc
      exact honly
    · obtain ⟨-, -, honly⟩ := hq hc
      exact honly
  · obtain ⟨hcost, hcpu, -⟩ := hp hc
    exact ⟨hcost, hcpu⟩
  · obtain ⟨hcost, hcpu, -⟩ := hq hc
    exact ⟨hcost, hcpu⟩

/-- The transfer that is not taken: nothing changes but the cost. -/
theorem finish_spec (s : State) (k : Nat) :
    ∃ t, finish s k = .next t ∧ t.cost = k ∧ t.cpu = s.cpu ∧ OnlyCpu s t :=
  ⟨_, rfl, rfl, rfl, onlyCpu_withCpu s s.cpu k⟩

/-! ### Jumps -/

theorem jumpTo_spec (a : Word) (k : Nat) (s : State) :
    ∃ t, jumpTo a k s = .next t ∧ t.cost = k ∧ t.cpu = { s.cpu with pc := a } ∧ OnlyCpu s t :=
  ⟨_, rfl, rfl, rfl, onlyCpu_withCpu s _ k⟩

theorem jumpIf_spec (cc : CC) (a : Word) (k k' : Nat) (s : State) :
    ∃ t, jumpIf cc a k k' s = .next t ∧ OnlyCpu s t ∧
      (CondHolds s cc → t.cost = k ∧ t.cpu = { s.cpu with pc := a }) ∧
      (¬ CondHolds s cc → t.cost = k' ∧ t.cpu = s.cpu) :=
  ite_cond_onlyCpu s cc (jumpTo_spec a k s) (finish_spec s k')

/-- JR's target in whole numbers: the offset is signed and the sum wraps (30_encoding.md R173). -/
theorem pc_of_relTarget {s t : State} {e : Byte} (h : t.cpu = { s.cpu with pc := s.relTarget e }) :
    t.cpu = { s.cpu with pc := t.cpu.pc } ∧
      (t.cpu.pc.toNat : Int) = ((s.cpu.pc.toNat : Int) + e.toInt) % 65536 := by
  rw [h]
  exact ⟨rfl, add_sext16_toNat s.cpu.pc e⟩

/-- Settles O32: every form is a jump to its target (`jumpTo_spec`), or one under a condition (`jumpIf_spec`);
`pc_of_relTarget` gives JR's target as a number. -/
theorem jumpInstructions : Obligations.JumpInstructions := by
  refine ⟨fun a e s => ⟨⟨rfl, jumpTo_spec a 4 s⟩, ⟨rfl, jumpTo_spec s.hl 1 s⟩, rfl, ?_⟩,
    fun cc a e s => ⟨⟨encode_jpCc cc a, ?_⟩, encode_jrCc cc e, ?_⟩⟩
  · obtain ⟨t, ht, hcost, hcpu, honly⟩ := jumpTo_spec (s.relTarget e) 3 s
    obtain ⟨hpc, htarget⟩ := pc_of_relTarget hcpu
    exact ⟨t, ht, hcost, hpc, htarget, honly⟩
  · rw [exec_jpCc]
    exact jumpIf_spec cc a 4 3 s
  · rw [exec_jrCc]
    obtain ⟨t, ht, honly, htaken, hnot⟩ := jumpIf_spec cc (s.relTarget e) 3 2 s
    refine ⟨t, ht, honly, fun hc => ?_, hnot⟩
    obtain ⟨hcost, hcpu⟩ := htaken hc
    exact ⟨hcost, pc_of_relTarget hcpu⟩

/-! ### Calls -/

/-- Settles O33: CALL and RST are a call to their target (`callTo_spec`); CALL cc is one under a condition, and
nothing when it fails. -/
theorem callInstructions : Obligations.CallInstructions := by
  refine ⟨fun a y s => ⟨⟨rfl, callTo_spec a 6 s⟩, encode_rst y, ?_⟩, fun cc a s => ⟨encode_callCc cc a, ?_⟩⟩
  · rw [exec_rst]
    exact callTo_spec _ 4 s
  · rw [exec_callCc]
    exact ite_cond_next s cc (callTo_spec a 6 s) (finish_spec s 3)

/-! ### Returns -/

/-- The registers after a return: PC is the word at SP, low byte first, and SP is two higher (00_scope.md R17). -/
def cpuAfterRet (s : State) : Cpu :=
  { s.cpu with pc := cat (s.busRead (s.cpu.sp + 1)) (s.busRead s.cpu.sp), sp := s.cpu.sp + 2 }

theorem ret_spec (k : Nat) (s : State) :
    ∃ t, ret k s = .next t ∧ t.cost = k ∧ t.cpu = cpuAfterRet s ∧ OnlyCpu s t :=
  ⟨_, rfl, rfl, rfl, onlyCpu_withCpu s _ k⟩

theorem retIf_spec (cc : CC) (s : State) :
    ∃ t, retIf cc s = .next t ∧ OnlyCpu s t ∧ (CondHolds s cc → t.cost = 5 ∧ t.cpu = cpuAfterRet s) ∧
      (¬ CondHolds s cc → t.cost = 2 ∧ t.cpu = s.cpu) :=
  ite_cond_onlyCpu s cc (ret_spec 5 s) (finish_spec s 2)

/-- IME and the EI latch are not on the bus. -/
theorem busRead_returnFromInterrupt (s : State) (b : Word) : s.returnFromInterrupt.busRead b = s.busRead b := rfl

/-- RETI's frame: a return, and IME and the EI latch besides (45_control.md R389). -/
theorem finish_returnFromInterrupt (s : State) (k : Nat) :
    ∃ t, finish s.returnFromInterrupt k = .next t ∧ t.cost = k ∧ t.cpu = cpuAfterRet s ∧
      t.irq = { s.irq with ime := true, eiPending := false } ∧
      t = { s with cpu := t.cpu, irq := t.irq, cost := t.cost } ∧ ∀ b : Word, t.busRead b = s.busRead b :=
  ⟨_, rfl, rfl, rfl, rfl, rfl, busRead_returnFromInterrupt s⟩

/-- Settles O34: RET is a return (`ret_spec`), RETI a return from an interrupt (`finish_returnFromInterrupt`) and
RET cc a return under a condition (`retIf_spec`). -/
theorem returns : Obligations.Returns := by
  refine fun cc s => ⟨⟨rfl, ret_spec 4 s⟩, ⟨rfl, finish_returnFromInterrupt s 4⟩, encode_retCc cc, ?_⟩
  rw [exec_retCc]
  exact retIf_spec cc s

end Sys2Proof.Proofs

/-! System instructions (46_system.md R410 to R416): the no-operations, the writers of the interrupt control bits, the
extended opcodes behind 0xCB, and what a whole step that runs EI leaves. -/

namespace Sys2Proof.Proofs

open Sys2Proof.Machine Sys2Proof.Bits Sys2Proof.Laws

/-! ### No-operations and interrupt control -/

theorem encode_unassigned (u : Unassigned) : encode (Instr.unassigned u) = [u.byte] := by cases u <;> rfl

/-- Settles O36: each form finishes in 1 cycle, with its own bits written first; the unassigned opcodes share one
meaning (`exec_unassigned`). -/
theorem noOperationsAndInterruptControl : Obligations.NoOperationsAndInterruptControl := fun _ u s =>
  ⟨⟨rfl, rfl⟩, ⟨rfl, rfl⟩, ⟨encode_unassigned u, exec_unassigned u s⟩, ⟨rfl, rfl⟩, ⟨rfl, rfl⟩, ⟨rfl, rfl⟩⟩

/-! ### PREFIX CB -/

/-- Every effect an instruction can have is a next state (60_exceptions.md R432). -/
theorem exec_next (i : Instr) (s : State) : ∃ t, exec i s = .next t := by
  have heff := exec_effect i s
  generalize exec i s = r at heff
  cases heff <;> exact ⟨_, rfl⟩

/-- 0xCB opens a two-byte instruction, the extended one of the second byte (30_encoding.md R170, R174). -/
theorem decode_extended (op2 : Byte) : decode [0xCB, op2] = .ok (decodeExtended op2, []) := rfl

/-- PREFIX CB fetches op2 at PC and runs the instruction the extended map has for it (46_system.md R415). -/
theorem exec_prefixCb (s : State) :
    exec .prefixCb s = exec (decodeExtended (s.busRead s.cpu.pc)) (s.setPc (s.cpu.pc + 1)) :=
  (exec_decodeExtended (s.busRead s.cpu.pc) (s.setPc (s.cpu.pc + 1))).symm

/-- Settles O37: the decoder reads the extended instruction of op2 (`decode_extended`), PREFIX CB runs it
(`exec_prefixCb`), and it completes as every instruction does (`exec_next`). -/
theorem prefixRunsExtendedInstruction : Obligations.PrefixRunsExtendedInstruction := by
  intro s
  obtain ⟨t, ht⟩ := exec_next (decodeExtended (s.busRead s.cpu.pc)) (s.setPc (s.cpu.pc + 1))
  exact ⟨_, t, decode_extended _, (exec_prefixCb s).trans ht, ht⟩

/-! ### The step that runs EI -/

theorem eiDelay_of_not_pending {s : State} (h : s.irq.eiPending = false) : s.eiDelay = s := if_neg (by simp [h])

/-- With IME clear, a CPU that runs takes no interrupt and has nothing to wake from (60_exceptions.md R440, R445). -/
theorem interruptEvaluate_of_ime_clear {s : State} (hime : s.irq.ime = false) (hrun : s.irq.halted = false) :
    s.interruptEvaluate = s := if_pos (by simp [hime, hrun])

/-- With IME clear on a CPU that runs, the end of the step is the timer's advance and the cycle count. -/
theorem endStep_of_ime_clear {s : State} (hime : s.irq.ime = false) (hrun : s.irq.halted = false) :
    s.endStep = { s.timerAdvance s.cost with cycles := s.endStep.cycles, cost := s.endStep.cost } := by
  have hquiet : (s.timerAdvance s.cost).interruptEvaluate = s.timerAdvance s.cost :=
    interruptEvaluate_of_ime_clear (by rw [timerAdvance_ime, hime]) (by rw [timerAdvance_halted, hrun])
  simp only [State.endStep, hquiet]

/-- What EI at PC leaves when `execute` returns (46_system.md R414): PC past its one byte, the EI latch set. -/
def afterEi (s : State) : State :=
  { s with cpu := { s.cpu with pc := s.cpu.pc + 1 }, irq := { s.irq with eiPending := true }, cost := 1 }

theorem runInstruction_ei {s : State} (hrun : s.irq.halted = false) (hop : s.busRead s.cpu.pc = 0xFB) :
    s.runInstruction = .next (afterEi s) := by
  have hinstr : s.instrAtPc = .ei := by rw [State.instrAtPc, hop]; rfl
  have hpc : s.pcAfterFetch = s.cpu.pc + 1 := by rw [State.pcAfterFetch, hop]; rfl
  rw [State.runInstruction, if_neg (by simp [hrun]), hinstr, hpc]
  rfl

/-- Settles O9: the step that runs EI starts without a delay to apply, ends without an interrupt because IME is still
clear (`endStep_of_ime_clear`), and the PPU and the host leave IME and the latch as they are; the EI delay of the next
step moves the latch to IME (`eiDelay_only`). -/
theorem eiTakesEffectAfterNextInstruction : Obligations.EiTakesEffectAfterNextInstruction := by
  intro s hrun hime hei hop
  have hexec : s.eiDelay.runInstruction = .next (afterEi s) := by
    rw [eiDelay_of_not_pending hei, runInstruction_ei hrun hop]
  have hend := endStep_of_ime_clear (s := afterEi s) hime hrun
  refine ⟨_, step_of_run hexec, ?_⟩
  generalize (afterEi s).endStep = e at hend ⊢
  rw [hend, eiDelay_only]
  simp [afterEi, hime, hrun]

end Sys2Proof.Proofs

/-! The timer (60_exceptions.md R450 to R456): its two counters apart, and that cycles add up over any split. -/

namespace Sys2Proof.Proofs

open Sys2Proof.Machine Sys2Proof.Laws

/-! ### Ticks -/

/-- A tick reads TIMA and TMA and writes TIMA and IF, so an update that keeps out of its way can come after any number
of ticks as well. -/
theorem timaTicks_comm {f : State → State} (hf : ∀ s : State, (f s).timaTick = f s.timaTick) (k : Nat) (s : State) :
    State.timaTicks k (f s) = f (State.timaTicks k s) := by
  induction k generalizing s with
  | zero => rfl
  | succ k ih => rw [State.timaTicks, State.timaTicks, hf, ih]

/-- TIMA's sub-counter set to k. -/
def setTimaSub (k : Nat) (s : State) : State := { s with timer := { s.timer with timaSub := k } }

@[simp] theorem setTimaSub_timaSub (k : Nat) (s : State) : (setTimaSub k s).timer.timaSub = k := rfl

@[simp] theorem setTimaSub_tac (k : Nat) (s : State) : (setTimaSub k s).timer.tac = s.timer.tac := rfl

@[simp] theorem setTimaSub_setTimaSub (k k' : Nat) (s : State) : setTimaSub k (setTimaSub k' s) = setTimaSub k s := rfl

theorem timaTicks_setTimaSub (x k : Nat) (s : State) :
    State.timaTicks k (setTimaSub x s) = setTimaSub x (State.timaTicks k s) := by
  refine timaTicks_comm (fun s => ?_) k s
  rw [State.timaTick, State.timaTick, apply_ite (setTimaSub x)]
  rfl

theorem timaTicks_divAdvance (n k : Nat) (s : State) :
    State.timaTicks k (s.divAdvance n) = (State.timaTicks k s).divAdvance n := by
  refine timaTicks_comm (f := (State.divAdvance · n)) (fun s => ?_) k s
  rw [State.timaTick, State.timaTick, apply_ite (State.divAdvance · n)]
  rfl

theorem timaTicks_withCost (c k : Nat) (s : State) :
    State.timaTicks k (s.withCost c) = (State.timaTicks k s).withCost c := by
  refine timaTicks_comm (f := (State.withCost · c)) (fun s => ?_) k s
  rw [State.timaTick, State.timaTick, apply_ite (State.withCost · c)]
  rfl

@[simp] theorem timaTicks_tac (k : Nat) (s : State) : (State.timaTicks k s).timer.tac = s.timer.tac := by
  rw [(timaTicks_spec k s).1]

/-- With the timer enabled, an advance is a run of ticks, and the rest of the division by the period is kept. -/
theorem timaAdvance_of_enabled {s : State} (h : timerEnabled s.timer.tac = true) (n : Nat) :
    s.timaAdvance n = setTimaSub ((s.timer.timaSub + n) % timerPeriod s.timer.tac)
      (State.timaTicks ((s.timer.timaSub + n) / timerPeriod s.timer.tac) s) := by
  rw [timaAdvance_enabled s n h]
  exact timaTicks_setTimaSub _ _ s

/-- The timer does not read what the instruction returned as its cost. -/
theorem timerAdvance_withCost (s : State) (c n : Nat) :
    (s.withCost c).timerAdvance n = (s.timerAdvance n).withCost c := by
  have hdiv : (s.withCost c).divAdvance n = (s.divAdvance n).withCost c := rfl
  rw [State.timerAdvance, hdiv, State.timerAdvance]
  generalize s.divAdvance n = t
  cases h : timerEnabled t.timer.tac with
  | false => rw [timaAdvance_disabled t n h, timaAdvance_disabled (t.withCost c) n h]
  | true =>
    rw [timaAdvance_of_enabled h, timaAdvance_of_enabled (s := t.withCost c) h, timaTicks_withCost]
    rfl

/-! ### What an advance does -/

theorem divAdvance_div_toNat (s : State) (n : Nat) :
    (s.divAdvance n).timer.div.toNat = (s.timer.div.toNat + (s.timer.divSub + n) / 64) % 256 := by
  rw [State.divAdvance, BitVec.toNat_add, BitVec.toNat_ofNat, Nat.add_mod_mod]
  rfl

/-- Settles O49: DIV's part is a division with remainder, and TIMA's is a run of ticks (`timaTicks_spec`) or, with the
timer disabled, nothing. -/
theorem timerCounts : Obligations.TimerCounts := by
  intro s n
  dsimp only
  rw [← timerPeriod_eq]
  have hdiv := divAdvance_div_toNat s n
  cases hen : timerEnabled s.timer.tac with
  | false =>
    have htac : s.timer.tac.getLsbD 2 = false := hen
    have hadv : s.timerAdvance n = s.divAdvance n := timaAdvance_disabled (s.divAdvance n) n hen
    have hor : s.irq.ifReg ||| 0 = s.irq.ifReg := BitVec.or_zero
    simp only [hadv, htac, Bool.false_eq_true, if_false, Nat.add_zero, if_pos s.timer.tima.isLt, hor]
    exact ⟨rfl, rfl, rfl, rfl, hdiv, rfl, rfl⟩
  | true =>
    have htac : s.timer.tac.getLsbD 2 = true := hen
    have hadv : s.timerAdvance n = setTimaSub ((s.timer.timaSub + n) % timerPeriod s.timer.tac)
        (State.timaTicks ((s.timer.timaSub + n) / timerPeriod s.timer.tac) (s.divAdvance n)) :=
      timaAdvance_of_enabled (s := s.divAdvance n) hen n
    obtain ⟨honly, htima⟩ :=
      timaTicks_spec ((s.timer.timaSub + n) / timerPeriod s.timer.tac) (s.divAdvance n)
    simp only [htac, if_true]
    rw [hadv]
    refine ⟨?_, ?_, ?_, ?_, ?_, rfl, htima⟩ <;> rw [honly]
    · rfl
    · rfl
    · rfl
    · rfl
    · exact hdiv

/-! ### Additivity -/

/-- The remainder carries over: cycles that come in two parts make as many whole periods as they make at once. -/
theorem add_div_of_mod (c m n p : Nat) : (c + m) / p + ((c + m) % p + n) / p = (c + (m + n)) / p := by
  rcases Nat.eq_zero_or_pos p with rfl | hp
  · simp
  · have hsum : (c + m) % p + n + (c + m) / p * p = c + (m + n) := by
      have := Nat.mod_add_div' (c + m) p
      omega
    rw [Nat.add_comm, ← Nat.add_mul_div_right _ _ hp, hsum]

theorem divAdvance_add (s : State) (m n : Nat) : (s.divAdvance m).divAdvance n = s.divAdvance (m + n) := by
  simp only [State.divAdvance, BitVec.add_assoc, ← BitVec.ofNat_add, add_div_of_mod, Nat.mod_add_mod, Nat.add_assoc]

theorem timaAdvance_divAdvance (s : State) (m n : Nat) :
    (s.timaAdvance m).divAdvance n = (s.divAdvance n).timaAdvance m := by
  cases h : timerEnabled s.timer.tac with
  | false => rw [timaAdvance_disabled s m h, timaAdvance_disabled (s.divAdvance n) m h]
  | true =>
    rw [timaAdvance_of_enabled h, timaAdvance_of_enabled (s := s.divAdvance n) h, timaTicks_divAdvance]
    rfl

theorem timaAdvance_add (s : State) (m n : Nat) : (s.timaAdvance m).timaAdvance n = s.timaAdvance (m + n) := by
  cases h : timerEnabled s.timer.tac with
  | false => rw [timaAdvance_disabled s m h, timaAdvance_disabled s n h, timaAdvance_disabled s (m + n) h]
  | true =>
    rw [timaAdvance_of_enabled h m, timaAdvance_of_enabled (by simpa using h) n, timaAdvance_of_enabled h (m + n),
      timaTicks_setTimaSub]
    simp [timaTicks_add, add_div_of_mod, Nat.add_assoc]

/-- Settles O50: DIV's part and TIMA's part touch different fields, and each adds up, because the remainders carry
over. -/
theorem timerAdvanceIsAdditive : Obligations.TimerAdvanceIsAdditive := by
  intro s m n
  simp only [State.timerAdvance, timaAdvance_divAdvance, divAdvance_add, timaAdvance_add]

end Sys2Proof.Proofs

/-! The CPU step and the driver loop (60_exceptions.md R430 to R432, R440 to R445): one instruction or one idle cycle,
the end of the step, and the dead halt (R545). -/

namespace Sys2Proof.Proofs

open Sys2Proof.Machine Sys2Proof.Bits Sys2Proof.Laws

/-! ### Interrupts (60_exceptions.md R440 to R442) -/

theorem interruptEvaluate_of_none_pending {s : State} (h : s.irq.pending = 0) : s.interruptEvaluate = s := by
  rw [State.interruptEvaluate, if_pos h, ite_self]

@[simp] theorem dispatch_cycles (s : State) (k : Nat) : (s.dispatch k).cycles = s.cycles := by
  rw [dispatch_eq]
  simp

@[simp] theorem interruptEvaluate_cycles (s : State) : s.interruptEvaluate.cycles = s.cycles := by
  obtain ⟨e, -⟩ | ⟨e, -⟩ | ⟨e, -⟩ := interruptEvaluate_cases s
  · rw [e]
  · rw [e]
  · rw [e, dispatch_cycles]

/-- Settles O47: the entry is two bus writes below SP (`dispatch_eq`), and the second goes to the neighbour of the
first. -/
theorem interruptEntry : Obligations.InterruptEntry := by
  intro s k _
  have hbit : 1#8 <<< k = BitVec.ofNat 8 (2 ^ k) := by
    apply BitVec.eq_of_toNat_eq
    simp [Nat.shiftLeft_eq]
  dsimp only
  rw [← hbit, dispatch_eq]
  exact ⟨rfl, by simp, by simp, onlyStores_of_eq (.inr (sub_two_eq _)) rfl⟩

/-- With IME clear a pending interrupt wakes a halted CPU, and a running one is awake already. -/
theorem interruptEvaluate_of_ime_clear_pending {s : State} (hime : s.irq.ime = false) (hp : s.irq.pending ≠ 0) :
    s.interruptEvaluate = { s with irq := { s.irq with halted := false } } := by
  cases hhalt : s.irq.halted
  · rw [interruptEvaluate_of_ime_clear hime hhalt, ← hhalt]
  · rw [State.interruptEvaluate, if_neg (by simp [hhalt]), if_neg hp]
    exact if_neg (Bool.eq_false_iff.1 hime)

theorem interruptEvaluate_of_ime_set_pending {s : State} (hime : s.irq.ime = true) (hp : s.irq.pending ≠ 0) :
    s.interruptEvaluate =
      State.dispatch { s with irq := { s.irq with halted := false } } (lowestSet s.irq.pending) := by
  rw [State.interruptEvaluate, if_neg (by simp [hime]), if_neg hp]
  exact if_pos hime

/-- Settles O48: bit k of the pending mask is IE's and IF's bit k (`pending_getLsbD`), so a mask that is not 0 is a
pending interrupt, and the lowest set bit is the interrupt with none below it (`lowestSet_eq`). -/
theorem interruptEvaluation : Obligations.InterruptEvaluation := by
  intro s pending awake
  have hbit (k : Nat) : pending k ↔ s.irq.pending.getLsbD k = true := by
    simp [pending, pending_getLsbD]
  have hsome {k : Nat} (hk : pending k) : s.irq.pending ≠ 0 := fun h0 => by
    rw [hbit, h0] at hk
    simp at hk
  refine ⟨fun h => ?_, fun ⟨_, hk⟩ hime => interruptEvaluate_of_ime_clear_pending hime (hsome hk),
    fun k hk hlow hime => ?_⟩
  · rcases h with ⟨hime, hrun⟩ | hnone
    · exact interruptEvaluate_of_ime_clear hime hrun
    · refine interruptEvaluate_of_none_pending (BitVec.eq_of_getLsbD_eq fun k _ => ?_)
      simpa [hbit] using hnone k
  · have hlowest : lowestSet s.irq.pending = k :=
      lowestSet_eq ((hbit k).1 hk) fun j hj => by simpa [hbit] using hlow j hj
    rw [interruptEvaluate_of_ime_set_pending hime (hsome hk), hlowest]

/-! ### The end of the step -/

theorem interruptCost_eq (s : State) :
    s.interruptCost = if s.irq.ime = true ∧ s.irq.pending ≠ 0 then 5 else 0 := by
  simp [State.interruptCost, Params.intDispatchCycles]

/-- Settles O6: the model's total is the cost and what the interrupts cost (`interruptCost_eq`), and neither the timer
nor a dispatch touches `cycles`. -/
theorem endOfStepAccounts : Obligations.EndOfStepAccounts := by
  intro t
  have hextra := interruptCost_eq (t.timerAdvance t.cost)
  rw [Irq.pending] at hextra
  dsimp only
  rw [← hextra, State.endStep]
  simp

theorem endStep_cost (s : State) : s.endStep.cost = s.cost + (s.timerAdvance s.cost).interruptCost := rfl

theorem endStep_cycles (s : State) : s.endStep.cycles = s.cycles + BitVec.ofNat 64 s.endStep.cost := by
  rw [endStep_cost]
  simp [State.endStep]

/-! ### The instruction of a step -/

theorem exec_cost (i : Instr) (s : State) : ∃ t, exec i s = .next t ∧ 1 ≤ t.cost ∧ t.cost ≤ 6 := by
  have heff := exec_effect i s
  generalize exec i s = r at heff
  cases heff with
  | regs c k h1 h6 | store _ _ c k h1 h6 | stores _ _ _ _ c k h1 h6 => exact ⟨_, rfl, h1, h6⟩
  | halt | di | ei => exact ⟨_, rfl, Nat.le_refl 1, (by decide : 1 ≤ 6)⟩
  | reti => exact ⟨_, rfl, (by decide : 1 ≤ 4), (by decide : 4 ≤ 6)⟩

/-- Settles O7: every instruction has an effect with its cost (`exec_effect`), and a step adds at most a dispatch's
5 cycles to it. -/
theorem everyStepCompletes : Obligations.EveryStepCompletes := by
  refine ⟨exec_cost, fun s => ?_⟩
  obtain ⟨t, hrun, h1, h6, hcycles⟩ := runInstruction_next s.eiDelay
  have hlow : 1 ≤ t.endStep.cost := Nat.le_add_right_of_le h1
  have htotal : t.endStep.cycles = s.cycles + BitVec.ofNat 64 t.endStep.cost := by
    rw [endStep_cycles, hcycles, eiDelay_only]
  exact ⟨_, step_of_run hrun, by simpa using hlow, by simpa using endStep_cost_le h6, by simpa using htotal⟩

@[simp] theorem eiDelay_cpu (s : State) : s.eiDelay.cpu = s.cpu := by rw [eiDelay_only]

@[simp] theorem eiDelay_halted (s : State) : s.eiDelay.irq.halted = s.irq.halted := by rw [eiDelay_only]

/-- The EI delay writes IME and its latch, which no address reads. -/
@[simp] theorem eiDelay_busRead (s : State) (a : Word) : s.eiDelay.busRead a = s.busRead a := by
  rw [eiDelay_only]
  rfl

/-- Settles O5: the three bytes at PC decode to the instruction there (`decode_three`), which is as long as its
encoding, and the EI delay changes neither the bytes nor PC. -/
theorem stepRunsDecodedInstruction : Obligations.StepRunsDecodedInstruction := by
  intro s t i rest hrun hdec hexec
  rw [decode_three] at hdec
  obtain ⟨rfl, -⟩ := Prod.mk.inj (Except.ok.inj hdec)
  rw [encode_decodeBytes_length] at hexec
  refine step_of_run ?_
  rw [State.runInstruction, if_neg (by simp [hrun])]
  simpa [State.instrAtPc, State.pcAfterFetch] using hexec

/-! ### A halted step (60_exceptions.md R430, R445) -/

/-- A halted step fetches nothing. -/
theorem runInstruction_of_halted {s : State} (h : s.irq.halted = true) : s.runInstruction = .next (s.withCost 1) :=
  if_pos h

/-- The idle cycle of a halted CPU with no pending EI, then the end of the step, the PPU and the host's input. -/
theorem step_of_halted {s : State} (hhalt : s.irq.halted = true) (hei : s.irq.eiPending = false) :
    step s = .next ((s.withCost 1).endStep.ppuAdvance (s.withCost 1).endStep.cost).applyHostInput := by
  refine step_of_run ?_
  rw [eiDelay_of_not_pending hei, runInstruction_of_halted hhalt]

/-- The end of a halted CPU's step: the timer one cycle on, the interrupts evaluated, and the total returned and added
to `cycles`. -/
theorem endStep_idle (s : State) :
    (s.withCost 1).endStep = { ((s.timerAdvance 1).withCost 1).interruptEvaluate with
      cycles := s.cycles + BitVec.ofNat 64 (1 + (s.timerAdvance 1).interruptCost)
      cost := 1 + (s.timerAdvance 1).interruptCost } := by
  have hcost : ((s.timerAdvance 1).withCost 1).interruptCost = (s.timerAdvance 1).interruptCost := rfl
  simp [State.endStep, timerAdvance_withCost, hcost]

/-- Settles O8: the idle cycle's end evaluates the interrupts (`endStep_idle`), and each clause is one outcome of the
evaluation; a dispatch is read off `dispatch_eq`. -/
theorem haltedStep : Obligations.HaltedStep := by
  intro s hhalt hei u pending
  have himeu : u.irq.ime = s.irq.ime := timerAdvance_ime s 1
  have hspu : u.cpu = s.cpu := timerAdvance_cpu s 1
  refine ⟨_, step_of_halted hhalt hei, fun h0 => ?_, fun hp hime => ?_, fun hp hime => ?_⟩
  · have hcost : u.interruptCost = 0 := (interruptCost_eq u).trans (if_neg fun h => h.2 h0)
    rw [endStep_idle, interruptEvaluate_of_none_pending (s := u.withCost 1) h0, hcost]
    rfl
  · have hcost : u.interruptCost = 0 := (interruptCost_eq u).trans (if_neg fun h => by simp [himeu, hime] at h)
    rw [endStep_idle, interruptEvaluate_of_ime_clear_pending (s := u.withCost 1) (himeu.trans hime) hp, hcost]
    rfl
  · have hcost : u.interruptCost = 5 := (interruptCost_eq u).trans (if_pos ⟨himeu.trans hime, hp⟩)
    rw [endStep_idle, interruptEvaluate_of_ime_set_pending (s := u.withCost 1) (himeu.trans hime) hp, hcost, dispatch_eq]
    obtain ⟨hlt, hbit⟩ := lowestSet_spec hp
    exact ⟨by simp, by simp, rfl, rfl, by simp [hspu], _, hlt, hbit, rfl⟩

/-! ### The dead halt (60_exceptions.md R545) -/

theorem sameProgramState_trans {s t u : State} (h : SameProgramState s t) (h' : SameProgramState t u) :
    SameProgramState s u := by
  obtain ⟨hcpu, hirq, hmem, hcart, htimer, hppu, hstat, hjoy⟩ := h
  obtain ⟨hcpu', hirq', hmem', hcart', htimer', hppu', hstat', hjoy'⟩ := h'
  exact ⟨hcpu'.trans hcpu, by rw [hirq', hirq], hmem'.trans hmem, hcart'.trans hcart, by rw [htimer', htimer],
    by rw [hppu', hppu], hstat'.trans hstat, hjoy'.trans hjoy⟩

theorem sameProgramState_refl (s : State) : SameProgramState s s := ⟨rfl, rfl, rfl, rfl, rfl, rfl, rfl, rfl⟩

theorem sameProgramState_timerAdvance (s : State) (n : Nat) : SameProgramState s (s.timerAdvance n) := by
  rw [(timerAdvance_only s n).1]
  exact ⟨rfl, rfl, rfl, rfl, rfl, rfl, rfl, rfl⟩

theorem sameProgramState_ppuAdvance (s : State) (n : Nat) : SameProgramState s (s.ppuAdvance n) := by
  have hstat : StatHigh s (s.ppuAdvance n) := ppuAdvance_statHigh s n
  have honly := ppuAdvance_only s n
  dsimp only at honly
  rw [honly] at hstat ⊢
  exact ⟨rfl, rfl, rfl, rfl, rfl, rfl, hstat, rfl⟩

theorem sameProgramState_applyHostInput (s : State) : SameProgramState s s.applyHostInput := by
  rw [applyHostInput_only]
  exact ⟨rfl, rfl, rfl, rfl, rfl, rfl, rfl, rfl⟩

theorem sameProgramState_endStep {s : State} (h : (s.timerAdvance s.cost).irq.pending = 0) :
    SameProgramState s s.endStep := by
  have hquiet : s.endStep = { s.timerAdvance s.cost with cycles := s.endStep.cycles, cost := s.endStep.cost } := by
    simp only [State.endStep, interruptEvaluate_of_none_pending h]
  rw [hquiet]
  exact sameProgramState_timerAdvance s s.cost

theorem pending_of_ie_clear {q : Irq} (h : q.ieReg.extractLsb' 0 5 = 0) : q.pending = 0 := by
  rw [Irq.pending, BitVec.extractLsb'_and, h]
  simp

theorem deadHalt_iff {s : State} :
    s.deadHalt = true ↔ s.irq.halted = true ∧ s.irq.ieReg.extractLsb' 0 5 = 0 := by
  simp [State.deadHalt]

theorem deadHalt_of_same {s t : State} (h : SameProgramState s t) (hd : s.deadHalt = true) : t.deadHalt = true := by
  obtain ⟨-, hirq, -⟩ := h
  rw [State.deadHalt, hirq]
  exact hd

theorem eiPending_of_same {s t : State} (h : SameProgramState s t) (hei : s.irq.eiPending = false) :
    t.irq.eiPending = false := by
  obtain ⟨-, hirq, -⟩ := h
  rw [hirq]
  exact hei

/-- In a dead halt no interrupt is pending at the end of the step, whatever IF is, so the step is an idle cycle and
what the devices do. -/
theorem step_of_deadHalt {s : State} (hd : s.deadHalt = true) (hei : s.irq.eiPending = false) :
    ∃ t, step s = .next t ∧ SameProgramState s t := by
  obtain ⟨hhalt, hie⟩ := deadHalt_iff.1 hd
  have hquiet : ((s.withCost 1).timerAdvance (s.withCost 1).cost).irq.pending = 0 :=
    pending_of_ie_clear (by simpa using hie)
  have hidle : SameProgramState s (s.withCost 1).endStep := sameProgramState_endStep hquiet
  exact ⟨_, step_of_halted hhalt hei,
    sameProgramState_trans hidle
      (sameProgramState_trans (sameProgramState_ppuAdvance _ _) (sameProgramState_applyHostInput _))⟩

theorem core_run_succ {s t : State} (h : step s = .next t) (n : Nat) :
    Host.Core.run Sys2Proof.core (n + 1) s = Host.Core.run Sys2Proof.core n t := by
  have hcore : Sys2Proof.core.step s = .next t := h
  simp only [Host.Core.run, hcore]

/-- Settles O60, by induction on the number of steps: a step keeps the program's state (`step_of_deadHalt`), the dead
halt and the absence of a pending EI among it. -/
theorem deadHaltIsForEver : Obligations.DeadHaltIsForEver := by
  intro s n hd hei
  induction n generalizing s with
  | zero => exact ⟨s, rfl, sameProgramState_refl s, hd⟩
  | succ n ih =>
    obtain ⟨t, hstep, hsame⟩ := step_of_deadHalt hd hei
    obtain ⟨u, hrun, hsame', hdead⟩ := ih t (deadHalt_of_same hsame hd) (eiPending_of_same hsame hei)
    exact ⟨u, (core_run_succ hstep n).trans hrun, sameProgramState_trans hsame hsame', hdead⟩

end Sys2Proof.Proofs

/-! The OAM transfer (60_exceptions.md R525), the joypad (R530 to R532) and the values at reset
(70_reset_and_hazards.md R553 to R559). -/

namespace Sys2Proof.Proofs

open Sys2Proof.Machine Sys2Proof.Bits Sys2Proof.Laws

/-! ### The OAM transfer -/

theorem oamAddr_toNat {i : Nat} (hi : i < 160) : (BitVec.ofNat 16 (0xFE00 + i)).toNat = 0xFE00 + i := by
  rw [BitVec.toNat_ofNat]
  omega

theorem busRead_oam (s : State) {i : Nat} (hi : i < 160) :
    s.busRead (BitVec.ofNat 16 (0xFE00 + i)) = Memory.read s.mem (0xFE00 + i) := by
  have hn := oamAddr_toNat hi
  rw [busRead_isMemory s (isMemory_of_route (route_oam (by omega) (by omega)) rfl), hn]

/-- Settles O42: the transfer is the fold of its 160 bytes (`oamDma_fold`). -/
theorem oamDmaCopies : Obligations.OamDmaCopies := by
  intro s v d t
  obtain ⟨honly, -, hcopied, -⟩ := oamDma_fold v d 160 (Nat.le_refl 160)
  exact ⟨honly, fun w i hi => (busRead_oam t hi).trans (hcopied w i hi), oamDma_read_other s v⟩

/-! ### The joypad -/

/-- Bit 3 to bit 0 of four flags put together as a group of the low nibble is (60_exceptions.md R531): a group that is
not selected reads as four ones. -/
theorem group_getLsbD (off f3 f2 f1 f0 : Bool) :
    let group : BitVec 4 :=
      if off then 0xF else BitVec.ofBool f3 ++ BitVec.ofBool f2 ++ BitVec.ofBool f1 ++ BitVec.ofBool f0
    group.getLsbD 3 = (off || f3) ∧ group.getLsbD 2 = (off || f2) ∧ group.getLsbD 1 = (off || f1) ∧
      group.getLsbD 0 = (off || f0) := by
  revert off f3 f2 f1 f0
  decide

/-- The three fields of the joypad register as it reads (60_exceptions.md R531). -/
theorem joypadRead_fields (j : Joypad) :
    j.read.extractLsb' 6 2 = 0b11 ∧ j.read.extractLsb' 4 2 = j.p1Select ∧
    ∀ k < 4, j.read.getLsbD k = j.lowNibble.getLsbD k := by
  have hbit (k : Nat) : j.read.getLsbD k = if k < 4 then j.lowNibble.getLsbD k else
      if k - 4 < 2 then j.p1Select.getLsbD (k - 4) else (0b11#2).getLsbD (k - 4 - 2) := by
    rw [← BitVec.getLsbD_append, ← BitVec.getLsbD_append]
    rfl
  refine ⟨BitVec.eq_of_getLsbD_eq fun i hi => ?_, BitVec.eq_of_getLsbD_eq fun i hi => ?_, fun k hk => ?_⟩
  · rw [BitVec.getLsbD_extractLsb', hbit, if_neg (by omega), if_neg (by omega), show 6 + i - 4 - 2 = i by omega]
    simp [hi]
  · rw [BitVec.getLsbD_extractLsb', hbit, if_neg (by omega), if_pos (by omega)]
    simp [hi]
  · rw [hbit, if_pos hk]

theorem released_setReleased (j : Joypad) (btn btn' : Button) (v : Bool) :
    (j.setReleased btn v).released btn' = if btn' = btn then v else j.released btn' := by
  cases btn <;> cases btn' <;> rfl

theorem setReleased_p1Select (j : Joypad) (btn : Button) (v : Bool) : (j.setReleased btn v).p1Select = j.p1Select := by
  cases btn <;> rfl

/-- A press requests interrupt 4, and a release nothing (60_exceptions.md R532). -/
theorem applyButton_eq (s : State) (ev : ButtonEvent) :
    s.applyButton ev = { s with
      joypad := s.joypad.setReleased ev.button ev.released
      irq := { s.irq with ifReg :=
        s.irq.ifReg ||| (if s.joypad.released ev.button && !ev.released then 0x10 else 0) } } := by
  have h0 : s.irq.ifReg ||| 0 = s.irq.ifReg := BitVec.or_zero
  simp only [State.applyButton]
  split
  · rfl
  · rw [h0]

/-- Settles O46: the register's fields (`joypadRead_fields`), its two groups bit by bit (`group_getLsbD`), and one
button's transition (`applyButton_eq`). -/
theorem joypadRegisterAndInterrupt : Obligations.JoypadRegisterAndInterrupt := by
  intro s v ev
  refine ⟨rfl, ?_, ?_⟩
  · intro j action direction r
    obtain ⟨hhigh, hselect, hlow⟩ := joypadRead_fields j
    obtain ⟨ha3, ha2, ha1, ha0⟩ := group_getLsbD (j.p1Select.getLsbD 1) j.start j.select j.b j.a
    obtain ⟨hd3, hd2, hd1, hd0⟩ := group_getLsbD (j.p1Select.getLsbD 0) j.down j.up j.left j.right
    refine ⟨hhigh, hselect, (hlow 3 (by decide)).trans ?_, (hlow 2 (by decide)).trans ?_,
      (hlow 1 (by decide)).trans ?_, (hlow 0 (by decide)).trans ?_⟩ <;>
      simp only [action, direction, Bool.not_not, Joypad.lowNibble, BitVec.getLsbD_and]
    · rw [ha3, hd3]
    · rw [ha2, hd2]
    · rw [ha1, hd1]
    · rw [ha0, hd0]
  · dsimp only
    rw [applyButton_eq]
    exact ⟨rfl, setReleased_p1Select _ _ _, (released_setReleased _ _ · _)⟩

/-! ### Reset -/

/-- Settles O56: the reset state is written out in the model, and the joypad register reads its reset fields. -/
theorem resetValues : Obligations.ResetValues := ⟨rfl, rfl, rfl, rfl, rfl, rfl, rfl, rfl, by decide⟩

end Sys2Proof.Proofs

/-! The PPU's mode machine (60_exceptions.md R500 to R513): a transition in one equation, the loop of an advance, and
a visible line from its start to the next. -/

namespace Sys2Proof.Proofs

open Sys2Proof.Machine Sys2Proof.Bits Sys2Proof.Laws

/-! ### Entering a mode -/

theorem enterOamScan_eq (s : State) :
    s.enterOamScan = { s with
      ppu := { s.ppu with mode := .oamScan, dotsRemaining := s.ppu.dotsRemaining + modeBudget .oamScan }
      irq := { s.irq with ifReg := s.irq.ifReg ||| (if s.ppu.stat.getLsbD 5 then 0x02 else 0) } } :=
  statRequest_eq (s.enterMode .oamScan Params.oamScanDots) 5

theorem enterVblank_eq (s : State) :
    s.enterVblank = { s with
      ppu := { s.ppu with
        mode := .vblank, dotsRemaining := s.ppu.dotsRemaining + modeBudget .vblank
        vblankDots := (-s.ppu.dotsRemaining).toNat, frameCount := s.ppu.frameCount + 1 }
      irq := { s.irq with ifReg := s.irq.ifReg ||| 0x01 ||| (if s.ppu.stat.getLsbD 4 then 0x02 else 0) }
      presented := some { frameCount := s.ppu.frameCount + 1, frame := s.frame } } := by
  rw [State.enterVblank, statRequest_eq]
  rfl

theorem enterHblank_eq (s : State) :
    ((s.renderLine s.ppu.ly.toNat).enterMode .hblank Params.hblankDots).statRequest 3 = { s with
      frame := (s.renderLine s.ppu.ly.toNat).frame
      ppu := { s.ppu with mode := .hblank, dotsRemaining := s.ppu.dotsRemaining + modeBudget .hblank }
      irq := { s.irq with ifReg := s.irq.ifReg ||| (if s.ppu.stat.getLsbD 3 then 0x02 else 0) } } := by
  obtain ⟨f, hf⟩ := renderLine_only s s.ppu.ly.toNat
  rw [statRequest_eq, hf]
  rfl

/-! ### A transition whole -/

/-- LY after a transition (60_exceptions.md R502): the next line's after h-blank, 0 after v-blank. -/
def nextLy (s : State) : Byte :=
  match s.ppu.mode with
  | .hblank => s.ppu.ly + 1
  | .vblank => 0
  | _ => s.ppu.ly

/-- The mode after a transition (60_exceptions.md R500, R502). -/
def nextMode (s : State) : Mode :=
  match s.ppu.mode with
  | .oamScan => .draw
  | .draw => .hblank
  | .hblank => if nextLy s = 144 then .vblank else .oamScan
  | .vblank => .oamScan

/-- STAT after a transition: bit 2 is the coincidence of the new LY, then bits 1-0 are the new mode. -/
def nextStat (s : State) : Byte :=
  (setBit s.ppu.stat 2 (s.coincidenceBit (nextLy s)) &&& 0xFC) ||| (modeNum (nextMode s)).setWidth 8

/-- A change of LY and the entry into a mode each may request interrupt 1; together they set its bit once. -/
theorem or_requests_two (x : Byte) (p q : Bool) :
    x ||| (if p then 0x02 else 0) ||| (if q then 0x02 else 0) = x ||| (if p || q then 0x02 else 0) := by
  cases p <;> cases q <;> simp [BitVec.or_assoc]

/-- As `or_requests_two`, with another request y between the two. -/
theorem or_requests (x y : Byte) (p q : Bool) :
    x ||| (if p then 0x02 else 0) ||| y ||| (if q then 0x02 else 0) = x ||| ((if p || q then 0x02 else 0) ||| y) := by
  rw [BitVec.or_assoc _ y, BitVec.or_comm y, ← BitVec.or_assoc, or_requests_two, BitVec.or_assoc]

/-- A transition in one equation. -/
theorem ppuTransition_eq (s : State) :
    s.ppuTransition = { s with
      frame := if s.ppu.mode = .draw then (s.renderLine s.ppu.ly.toNat).frame else s.frame
      presented := if nextMode s = .vblank then some { frameCount := s.ppu.frameCount + 1, frame := s.frame }
        else s.presented
      ppu := { s.ppu with
        mode := nextMode s, dotsRemaining := s.ppu.dotsRemaining + modeBudget (nextMode s), ly := nextLy s
        stat := nextStat s
        vblankDots := if nextMode s = .vblank then (-s.ppu.dotsRemaining).toNat else s.ppu.vblankDots
        frameCount := if nextMode s = .vblank then s.ppu.frameCount + 1 else s.ppu.frameCount }
      irq := { s.irq with ifReg := s.irq.ifReg |||
        ((if s.coincidenceRequest (nextLy s) || s.modeRequest (nextMode s) then 0x02 else 0) |||
          (if nextMode s = .vblank then 0x01 else 0)) } } := by
  have hkeep : s.coincidenceBit s.ppu.ly = s.ppu.stat.getLsbD 2 := if_pos rfl
  have hquiet : s.coincidenceRequest s.ppu.ly = false := by simp [State.coincidenceRequest]
  have hself : setBit s.ppu.stat 2 (s.ppu.stat.getLsbD 2) = s.ppu.stat := setBit_getLsbD_self _ _ (by decide)
  have hor : ∀ x : Byte, x ||| 0 = x := fun _ => BitVec.or_zero
  cases hm : s.ppu.mode with
  | oamScan =>
    have hly : nextLy s = s.ppu.ly := by simp only [nextLy, hm]
    have hmode : nextMode s = .draw := by simp only [nextMode, hm]
    simp only [State.ppuTransition, hm, nextStat, hmode, hly, hkeep, hquiet, hself, State.modeRequest, Bool.or_self,
      Bool.false_eq_true, reduceCtorEq, if_false, hor]
    rfl
  | draw =>
    have hly : nextLy s = s.ppu.ly := by simp only [nextLy, hm]
    have hmode : nextMode s = .hblank := by simp only [nextMode, hm]
    simp only [State.ppuTransition, hm, enterHblank_eq, nextStat, hmode, hly, hkeep, hquiet, hself, State.modeRequest,
      Bool.false_or, reduceCtorEq, if_false, if_true, hor]
    rfl
  | vblank =>
    have hly : nextLy s = 0 := by simp only [nextLy, hm]
    have hmode : nextMode s = .oamScan := by simp only [nextMode, hm]
    simp only [State.ppuTransition, hm, setLy_eq, enterOamScan_eq, nextStat, hmode, hly, State.modeRequest,
      getLsbD_setBit_other _ 2 5 (by decide), or_requests_two, reduceCtorEq, if_false, hor]
    rfl
  | hblank =>
    have hly : nextLy s = s.ppu.ly + 1 := by simp only [nextLy, hm]
    by_cases h144 : s.ppu.ly + 1 = 144
    · have hmode : nextMode s = .vblank := by simp only [nextMode, hm, hly, if_pos h144]
      simp only [State.ppuTransition, hm, setLy_eq, if_pos h144, enterVblank_eq, nextStat, hmode, hly, State.modeRequest,
        getLsbD_setBit_other _ 2 4 (by decide), or_requests, reduceCtorEq, if_false, if_true]
      rfl
    · have hmode : nextMode s = .oamScan := by simp only [nextMode, hm, hly, if_neg h144]
      simp only [State.ppuTransition, hm, setLy_eq, if_neg h144, enterOamScan_eq, nextStat, hmode, hly, State.modeRequest,
        getLsbD_setBit_other _ 2 5 (by decide), or_requests_two, reduceCtorEq, if_false, hor]
      rfl

theorem nextStat_mode (s : State) : (nextStat s).extractLsb' 0 2 = modeNum (nextMode s) := (syncStat_bits _ _).1

theorem nextStat_getLsbD (s : State) {j : Nat} (hj : 2 ≤ j) :
    (nextStat s).getLsbD j = if j = 2 then s.coincidenceBit (nextLy s) else s.ppu.stat.getLsbD j := by
  rw [nextStat, (syncStat_bits _ _).2 j hj, getLsbD_setBit _ (by decide)]

theorem ppuAdvance_dots_pos (s : State) (n : Nat) : 0 < (s.ppuAdvance n).ppu.dotsRemaining :=
  ppuLoop_dots _ _ (ppuFuel_enough _)

/-- Settles O51: the equation of a transition (`ppuTransition_eq`), STAT's bits read off `nextStat`, and the loop's
end. -/
theorem ppuTransitions : Obligations.PpuTransitions := by
  intro s n t ly next
  have hly : nextLy s = ly := by cases hm : s.ppu.mode <;> simp only [nextLy, ly, hm]
  have hmode : nextMode s = next := by cases hm : s.ppu.mode <;> simp only [nextMode, next, hm, hly]
  have ht : t = _ := ppuTransition_eq s
  rw [ht, ← hly, ← hmode]
  exact ⟨rfl, rfl, nextStat_mode s, fun j hj => nextStat_getLsbD s hj, rfl, rfl, rfl, ppuAdvance_dots_pos s n⟩

/-! ### An advance (60_exceptions.md R501, R504) -/

theorem ppuLoop_of_spent {s : State} (h : s.ppu.dotsRemaining ≤ 0) (fuel : Nat) :
    State.ppuLoop (fuel + 1) s = State.ppuLoop fuel s.ppuTransition := if_pos h

theorem ppuLoop_of_left {s : State} (h : 0 < s.ppu.dotsRemaining) (fuel : Nat) : State.ppuLoop fuel s = s := by
  cases fuel with
  | zero => rfl
  | succ fuel => exact if_neg (by omega)

theorem spendDots_of_vblank {s : State} (h : s.ppu.mode = .vblank) (n : Nat) :
    s.spendDots n = { s with
      ppu := { s.ppu with
        dotsRemaining := s.ppu.dotsRemaining - (4 * n : Nat), vblankDots := s.ppu.vblankDots + 4 * n
        ly := vblankLy (s.ppu.vblankDots + 4 * n)
        stat := setBit s.ppu.stat 2 (s.coincidenceBit (vblankLy (s.ppu.vblankDots + 4 * n))) }
      irq := { s.irq with ifReg := s.irq.ifReg |||
        (if s.coincidenceRequest (vblankLy (s.ppu.vblankDots + 4 * n)) then 0x02 else 0) } } := by
  rw [spendDots_vblank s n h, setLy_eq]
  rfl

theorem spendDots_dots (s : State) (n : Nat) :
    (s.spendDots n).ppu.dotsRemaining = s.ppu.dotsRemaining - (4 * n : Nat) := by
  by_cases h : s.ppu.mode = .vblank
  · rw [spendDots_of_vblank h]
  · rw [spendDots_visible s n h]

/-- An advance whose dots pass at most one mode's end makes a transition exactly when no dots are left. -/
theorem ppuAdvance_of_short {s : State} {n : Nat} (h : 4 * (n : Int) < s.ppu.dotsRemaining + 80) :
    s.ppuAdvance n =
      if 4 * (n : Int) < s.ppu.dotsRemaining then s.spendDots n else (s.spendDots n).ppuTransition := by
  have hdots := spendDots_dots s n
  rw [ppuAdvance_short s n (by omega)]
  by_cases hleft : 4 * (n : Int) < s.ppu.dotsRemaining
  · rw [if_pos hleft, if_neg (by omega)]
  · rw [if_neg hleft, if_pos (by omega)]

/-! ### A visible line (60_exceptions.md R506) -/

theorem sameVideo_ppuTransition (s : State) : SameVideo s s.ppuTransition := by
  rw [ppuTransition_only]
  exact ⟨rfl, rfl, rfl, rfl, rfl, rfl, rfl, rfl, rfl⟩

/-- The scan of a visible line's OAM, spent, goes over to DRAW with the frame as it is. -/
theorem ppuTransition_of_oamScan {s : State} (hm : s.ppu.mode = .oamScan) :
    s.ppuTransition.ppu.mode = .draw ∧ s.ppuTransition.ppu.dotsRemaining = s.ppu.dotsRemaining + 230 ∧
    s.ppuTransition.ppu.ly = s.ppu.ly ∧ s.ppuTransition.frame = s.frame := by
  obtain ⟨w, -, h⟩ := ppuTransition_oamScan s hm
  rw [h]
  exact ⟨rfl, rfl, rfl, rfl⟩

/-- DRAW, spent, leaves its line in the frame buffer. -/
theorem ppuTransition_of_draw {s : State} (hm : s.ppu.mode = .draw) :
    s.ppuTransition.ppu.mode = .hblank ∧ s.ppuTransition.ppu.dotsRemaining = s.ppu.dotsRemaining + 146 ∧
    s.ppuTransition.ppu.ly = s.ppu.ly ∧ s.ppuTransition.frame = (s.renderLine s.ppu.ly.toNat).frame := by
  obtain ⟨w, q, -, h⟩ := ppuTransition_draw s hm
  rw [h]
  exact ⟨rfl, rfl, rfl, rfl⟩

/-- H-blank on a line other than the last, spent, goes over to the next line's scan. -/
theorem ppuTransition_of_hblank {s : State} (hm : s.ppu.mode = .hblank) (hl : s.ppu.ly ≠ 143) :
    s.ppuTransition.ppu.mode = .oamScan ∧ s.ppuTransition.ppu.dotsRemaining = s.ppu.dotsRemaining + 80 ∧
    s.ppuTransition.ppu.ly = s.ppu.ly + 1 ∧ s.ppuTransition.frame = s.frame := by
  obtain ⟨w, q, -, h⟩ := ppuTransition_hblank s hm hl
  rw [h]
  exact ⟨rfl, rfl, rfl, rfl⟩

/-- The 456 dots of a visible line other than the last, from its start: they pass the ends of the scan, of DRAW and of
h-blank, and the line is drawn on the way. -/
theorem ppuAdvance_visibleLine {s : State} (hm : s.ppu.mode = .oamScan) (hd : s.ppu.dotsRemaining = 80)
    (hl : s.ppu.ly.toNat < 143) :
    (s.ppuAdvance 114).ppu.mode = .oamScan ∧ (s.ppuAdvance 114).ppu.dotsRemaining = 80 ∧
    (s.ppuAdvance 114).ppu.ly = s.ppu.ly + 1 ∧
    (s.ppuAdvance 114).frame = storeWrite blankLine s.frame s.ppu.ly.toNat (s.lineShades s.ppu.ly.toNat) := by
  have hspend : s.spendDots 114 = { s with ppu := { s.ppu with dotsRemaining := -376 } } := by
    rw [spendDots_visible s 114 (by rw [hm]; decide), hd]
    rfl
  rw [show s.ppuAdvance 114 = State.ppuLoop (s.spendDots 114).ppuFuel (s.spendDots 114) from rfl, hspend]
  generalize hu : ({ s with ppu := { s.ppu with dotsRemaining := -376 } } : State) = u
  have hvideo : SameVideo s u := by rw [← hu]; exact ⟨rfl, rfl, rfl, rfl, rfl, rfl, rfl, rfl, rfl⟩
  have humode : u.ppu.mode = .oamScan := by rw [← hu]; exact hm
  have hudots : u.ppu.dotsRemaining = -376 := by rw [← hu]
  have huly : u.ppu.ly = s.ppu.ly := by rw [← hu]
  have huframe : u.frame = s.frame := by rw [← hu]
  obtain ⟨hmode1, hdots1, hly1, hframe1⟩ := ppuTransition_of_oamScan humode
  obtain ⟨hmode2, hdots2, hly2, hframe2⟩ := ppuTransition_of_draw hmode1
  have hlast : u.ppuTransition.ppuTransition.ppu.ly ≠ 143 := fun h => by
    rw [← huly, ← hly1, ← hly2, h] at hl
    exact absurd hl (by decide)
  obtain ⟨hmode3, hdots3, hly3, hframe3⟩ := ppuTransition_of_hblank hmode2 hlast
  have hfuel : u.ppuFuel = 5 := by rw [State.ppuFuel, hudots]; rfl
  rw [hfuel, ppuLoop_of_spent (by omega), ppuLoop_of_spent (by omega), ppuLoop_of_spent (by omega),
    ppuLoop_of_left (by omega)]
  refine ⟨hmode3, by omega, by rw [hly3, hly2, hly1, huly], ?_⟩
  rw [hframe3, hframe2, renderLine_eq _ _ (by rw [hly1, huly]; omega), hframe1, huframe, hly1, huly,
    lineShades_congr (sameVideo_ppuTransition u) (by omega), lineShades_congr hvideo (by omega)]

/-- Settles O52: the visible line (`ppuAdvance_visibleLine`) is read back from the frame buffer; for a short advance u
is the state with its dots spent. -/
theorem visibleLineTakes114Cycles : Obligations.VisibleLineTakes114Cycles := by
  constructor
  · intro s hm hd hl
    obtain ⟨hmode, hdots, hly, hframe⟩ := ppuAdvance_visibleLine hm hd hl
    refine ⟨hmode, hdots, hly, fun w => ?_, fun l hne => ?_⟩
    · rw [State.frameLine, hframe, storeRead_write_same_from _ _ w]
    · rw [State.frameLine, hframe, storeRead_write_other _ _ hne, State.frameLine]
  · intro s n hn dots ly
    refine ⟨s.spendDots n, ppuAdvance_of_short hn, fun h => ?_, fun h => ?_⟩
    · rw [spendDots_visible s n h]
      rfl
    · rw [spendDots_of_vblank h]
      exact ⟨rfl, fun j => getLsbD_setBit _ (by decide) j _⟩

end Sys2Proof.Proofs

/-! The line renderer (60_exceptions.md R514 to R522): a line's shades, the sprites of a line and the winning pixel at
a column. -/

namespace Sys2Proof.Proofs

open Sys2Proof.Machine Sys2Proof.Bits Sys2Proof.Laws

/-! ### A line's shades (60_exceptions.md R514 to R518) -/

theorem backIndex_lt (s : State) (ly x : Nat) : s.backIndex ly x < 4 := by
  rw [State.backIndex]
  split
  · decide
  · split
    · exact layerIndex_lt _ _ _ _
    · exact layerIndex_lt _ _ _ _

theorem backShade_lt (s : State) (ly x : Nat) : s.backShade ly x < 4 := by
  rw [State.backShade]
  split
  · decide
  · exact Nat.mod_lt _ (by decide)

theorem pixel_eq (s : State) (sel : List Nat) (ly x : Nat) :
    s.pixel sel ly x = s.composite (BitVec.ofNat 2 (s.backIndex ly x)) (BitVec.ofNat 2 (s.backShade ly x))
      (s.spritePixel sel ly x) := by
  rw [State.pixel, backLayer_eq]

theorem lineShades_length (s : State) (ly : Nat) : (s.lineShades ly).length = 160 := by
  rw [State.lineShades, List.length_map, List.length_range]
  rfl

theorem lineShades_getElem? (s : State) (ly : Nat) {x : Nat} (hx : x < 160) :
    (s.lineShades ly)[x]? = some (s.pixel (s.lineSprites ly) ly x) := by
  rw [State.lineShades, List.getElem?_map, List.getElem?_range (by exact hx)]
  rfl

theorem frameLine_renderLine_same {s : State} {ly : Nat} (hl : ly < 144) (w : storeWf blankLine s.frame = true) :
    (s.renderLine ly).frameLine ly = s.lineShades ly := by
  rw [renderLine_eq s ly hl]
  exact storeRead_write_same_from _ _ w

theorem frameLine_renderLine_other (s : State) {ly l : Nat} (hl : ly < 144) (hne : l ≠ ly) :
    (s.renderLine ly).frameLine l = s.frameLine l := by
  rw [renderLine_eq s ly hl]
  exact storeRead_write_other _ _ hne

/-- Settles O53: the row written is the line's shades (`frameLine_renderLine_same`), and each is the background or
window in whole numbers (`backLayer_eq`) composed with the winning sprite pixel. -/
theorem renderLineWritesOneRow : Obligations.RenderLineWritesOneRow := by
  intro s ly hl t sel
  refine ⟨?_, fun w => ?_, fun w x hx => ?_, fun x => ⟨backIndex_lt s ly x, backShade_lt s ly x⟩, fun l hne => ?_⟩
  · obtain ⟨f, hf⟩ := renderLine_only s ly
    simp only [t, hf]
  · rw [frameLine_renderLine_same hl w, lineShades_length]
  · rw [frameLine_renderLine_same hl w, lineShades_getElem? s ly hx, pixel_eq]
    rfl
  · exact frameLine_renderLine_other s hl hne

/-! ### The sprites of a line (60_exceptions.md R519) -/

/-- What the first n elements of a rising list leave out: only what is above all of them, and only when there are n. -/
theorem take_of_rising {l : List Nat} (h : l.Pairwise (· < ·)) {n i : Nat} (hi : i ∈ l) (hout : i ∉ l.take n) :
    (l.take n).length = n ∧ ∀ j ∈ l.take n, j < i := by
  have hlen : n ≤ l.length := Nat.le_of_not_lt fun hshort =>
    hout (by rwa [List.take_of_length_le (Nat.le_of_lt hshort)])
  have hdrop : i ∈ l.drop n := by
    rw [← List.take_append_drop n l, List.mem_append] at hi
    exact hi.resolve_left hout
  rw [← List.take_append_drop n l, List.pairwise_append] at h
  obtain ⟨-, -, hcross⟩ := h
  exact ⟨List.length_take_of_le hlen, fun j hj => hcross j hj i hdrop⟩

theorem spriteCovers_iff (s : State) (ly i : Nat) :
    s.spriteCovers ly i = true ↔ ((s.oam (4 * i)).toNat : Int) - 16 ≤ ly ∧
      (ly : Int) < ((s.oam (4 * i)).toNat : Int) - 16 + s.spriteHeight := by
  rw [State.spriteCovers, Bool.and_eq_true, decide_eq_true_eq, decide_eq_true_eq]

/-- Settles O54: the sprites that cover the line, in OAM order, are a filtered range, and the selected ones its first
ten (`take_of_rising`). -/
theorem spriteSelection : Obligations.SpriteSelection := by
  intro s ly covers sel
  have hcovers (i : Nat) : s.spriteCovers ly i = true ↔ covers i := by
    rw [spriteCovers_iff, State.spriteHeight, apply_ite Nat.cast]
    rfl
  have hrising : ((List.range 40).filter (s.spriteCovers ly)).Pairwise (· < ·) :=
    List.pairwise_lt_range.filter _
  refine ⟨List.length_take_le _ _, hrising.take, fun i hi => ?_, fun i hi hc hout => ?_⟩
  · obtain ⟨hrange, hc⟩ := List.mem_filter.1 (List.mem_of_mem_take hi)
    exact ⟨List.mem_range.1 hrange, (hcovers i).1 hc⟩
  · exact take_of_rising hrising (List.mem_filter.2 ⟨List.mem_range.2 hi, (hcovers i).2 hc⟩) hout

/-! ### A sprite's pixel (60_exceptions.md R520) -/

theorem and_FE_toNat (t : Byte) : (t &&& 0xFE).toNat = t.toNat / 2 * 2 := by
  revert t
  decide +kernel

theorem spriteIndex_lt (s : State) (ly x i : Nat) : s.spriteIndex ly x i < 4 := planeIndex_lt _ _ _

theorem ofNat_two_eq_zero_iff {k : Nat} (h : k < 4) : BitVec.ofNat 2 k = 0 ↔ k = 0 := by
  rw [← BitVec.toNat_inj, BitVec.toNat_ofNat, Nat.mod_eq_of_lt h]
  rfl

/-- The opaque pixel in whole numbers: its columns, its flips and its tile are those of `spriteIndex`. -/
theorem spriteOpaque_eq (s : State) (ly x i : Nat) :
    s.spriteOpaque ly x i =
      if s.byteAt (0xFE00 + 4 * i + 1) ≤ x + 8 ∧ x < s.byteAt (0xFE00 + 4 * i + 1) ∧ s.spriteIndex ly x i ≠ 0 then
        some { i := i, x := s.busRead (BitVec.ofNat 16 (0xFE00 + 4 * i + 1))
               idx := BitVec.ofNat 2 (s.spriteIndex ly x i)
               attr := s.busRead (BitVec.ofNat 16 (0xFE00 + 4 * i + 3)) }
      else none := by
  have hcols : (((s.oam (4 * i + 1)).toNat : Int) - 8 ≤ x ∧ (x : Int) < (s.oam (4 * i + 1)).toNat) ↔
      s.byteAt (0xFE00 + 4 * i + 1) ≤ x + 8 ∧ x < s.byteAt (0xFE00 + 4 * i + 1) := by
    rw [State.oam, State.byteAt, Nat.add_assoc]
    omega
  simp only [State.spriteOpaque, getLsbD_eq_div, decide_eq_true_eq, and_FE_toNat, tilePixel_eq, Bool.and_eq_true, hcols]
  change (if _ then if BitVec.ofNat 2 (s.spriteIndex ly x i) = 0 then none else
    some (SpritePixel.mk i _ (BitVec.ofNat 2 (s.spriteIndex ly x i)) _) else none) = _
  have hzero := ofNat_two_eq_zero_iff (spriteIndex_lt s ly x i)
  by_cases hcol : s.byteAt (0xFE00 + 4 * i + 1) ≤ x + 8 ∧ x < s.byteAt (0xFE00 + 4 * i + 1)
  · obtain ⟨hleft, hright⟩ := id hcol
    rw [if_pos hcol]
    by_cases hidx : s.spriteIndex ly x i = 0
    · rw [if_pos (hzero.2 hidx), if_neg fun ⟨_, _, hne⟩ => hne hidx]
    · rw [if_neg (mt hzero.1 hidx), if_pos ⟨hleft, hright, hidx⟩]
      rfl
  · rw [if_neg hcol, if_neg fun ⟨hleft, hright, _⟩ => hcol ⟨hleft, hright⟩]

/-! ### The winning pixel (60_exceptions.md R520) -/

/-- p has the lower X, or the same X and no higher OAM index. -/
def Precedes (p q : SpritePixel) : Prop := p.x.toNat < q.x.toNat ∨ (p.x = q.x ∧ p.i ≤ q.i)

theorem precedes_refl (p : SpritePixel) : Precedes p p := .inr ⟨rfl, Nat.le_refl _⟩

theorem precedes_trans {p q r : SpritePixel} (h : Precedes p q) (h' : Precedes q r) : Precedes p r := by
  simp only [Precedes, ← BitVec.toNat_inj] at *
  omega

theorem beats_iff (p q : SpritePixel) : p.beats q = true ↔ ¬ Precedes q p := by
  simp only [SpritePixel.beats, Precedes, ← BitVec.toNat_inj, Bool.or_eq_true, Bool.and_eq_true,
    decide_eq_true_eq, beq_iff_eq]
  omega

theorem precedes_total (p q : SpritePixel) : Precedes p q ∨ Precedes q p := by
  simp only [Precedes, ← BitVec.toNat_inj]
  omega

/-- The opaque pixel of one of the sprites that precedes every other's. -/
def IsWinner (s : State) (sel : List Nat) (ly x : Nat) (p : SpritePixel) : Prop :=
  p.i ∈ sel ∧ s.spriteOpaque ly x p.i = some p ∧ ∀ i ∈ sel, ∀ q, s.spriteOpaque ly x i = some q → Precedes p q

section
variable {s : State} {sel : List Nat} {ly x i : Nat} {p best : SpritePixel}

theorem spritePixel_concat_of_none (h : s.spriteOpaque ly x i = none) :
    s.spritePixel (sel ++ [i]) ly x = s.spritePixel sel ly x := by
  simp only [State.spritePixel, List.foldl_append, List.foldl_cons, List.foldl_nil, h]

theorem spritePixel_concat_of_first (h : s.spriteOpaque ly x i = some p) (hb : s.spritePixel sel ly x = none) :
    s.spritePixel (sel ++ [i]) ly x = some p := by
  rw [State.spritePixel] at hb
  simp only [State.spritePixel, List.foldl_append, List.foldl_cons, List.foldl_nil, h, hb]

theorem spritePixel_concat_of_some (h : s.spriteOpaque ly x i = some p) (hb : s.spritePixel sel ly x = some best) :
    s.spritePixel (sel ++ [i]) ly x = if p.beats best then some p else some best := by
  rw [State.spritePixel] at hb
  simp only [State.spritePixel, List.foldl_append, List.foldl_cons, List.foldl_nil, h, hb]

theorem spriteOpaque_i (h : s.spriteOpaque ly x i = some p) : p.i = i := by
  rw [spriteOpaque_eq] at h
  split at h
  · exact congrArg SpritePixel.i (Option.some.inj h).symm
  · cases h

/-- A winner over the sprites so far stays one if it precedes the pixel of the sprite that is added. -/
theorem isWinner_concat_old (h : IsWinner s sel ly x p)
    (hi : ∀ q, s.spriteOpaque ly x i = some q → Precedes p q) : IsWinner s (sel ++ [i]) ly x p := by
  obtain ⟨hmem, hop, hfirst⟩ := h
  refine ⟨List.mem_append_left _ hmem, hop, fun j hj q hq => ?_⟩
  rcases List.mem_append.1 hj with hj | hj
  · exact hfirst j hj q hq
  · rw [List.mem_singleton.1 hj] at hq
    exact hi q hq

/-- The pixel of the sprite that is added wins if it precedes every pixel so far. -/
theorem isWinner_concat_new (hp : s.spriteOpaque ly x i = some p)
    (h : ∀ j ∈ sel, ∀ q, s.spriteOpaque ly x j = some q → Precedes p q) : IsWinner s (sel ++ [i]) ly x p := by
  have hi := spriteOpaque_i hp
  refine ⟨by simp [hi], by rw [hi, hp], fun j hj q hq => ?_⟩
  rcases List.mem_append.1 hj with hj | hj
  · exact h j hj q hq
  · rw [List.mem_singleton.1 hj, hp] at hq
    rw [Option.some.inj hq]
    exact precedes_refl q

end

/-- The fold over the sprites gives the winner, and none when no pixel is opaque. By induction on the list from its end,
where the fold looks at its last sprite. -/
theorem spritePixel_spec (s : State) (sel : List Nat) (ly x : Nat) :
    (s.spritePixel sel ly x = none → ∀ i ∈ sel, s.spriteOpaque ly x i = none) ∧
    ∀ p, s.spritePixel sel ly x = some p → IsWinner s sel ly x p := by
  rw [← List.reverse_reverse sel]
  induction sel.reverse with
  | nil => exact ⟨fun _ _ h => absurd h List.not_mem_nil, fun _ h => by cases h⟩
  | cons i rest ih =>
    rw [List.reverse_cons]
    generalize rest.reverse = sel at ih ⊢
    obtain ⟨hnone, hsome⟩ := ih
    cases ho : s.spriteOpaque ly x i with
    | none =>
      rw [spritePixel_concat_of_none ho]
      refine ⟨fun h j hj => ?_, fun p hp => isWinner_concat_old (hsome p hp) fun q hq => by rw [ho] at hq; cases hq⟩
      rcases List.mem_append.1 hj with hj | hj
      · exact hnone h j hj
      · rw [List.mem_singleton.1 hj, ho]
    | some q =>
      cases hb : s.spritePixel sel ly x with
      | none =>
        rw [spritePixel_concat_of_first ho hb]
        refine ⟨nofun, fun p hp => ?_⟩
        cases hp
        exact isWinner_concat_new ho fun j hj r hr => by rw [hnone hb j hj] at hr; cases hr
      | some best =>
        have hbest := hsome best hb
        rw [spritePixel_concat_of_some ho hb]
        by_cases hbeats : q.beats best = true
        · rw [if_pos hbeats]
          refine ⟨nofun, fun p hp => ?_⟩
          cases hp
          obtain ⟨-, -, hfirst⟩ := hbest
          have hq : Precedes q best := (precedes_total q best).resolve_right ((beats_iff q best).1 hbeats)
          exact isWinner_concat_new ho fun j hj r hr => precedes_trans hq (hfirst j hj r hr)
        · rw [if_neg hbeats]
          refine ⟨nofun, fun p hp => ?_⟩
          cases hp
          have hq : Precedes best q := Classical.not_not.1 (mt (beats_iff q best).2 hbeats)
          refine isWinner_concat_old hbest fun r hr => ?_
          rw [ho] at hr
          cases hr
          exact hq

/-! ### Composition (60_exceptions.md R521) -/

theorem shade_eq_div (p : Byte) (i : BitVec 2) : shade p i = BitVec.ofNat 2 (p.toNat / 4 ^ i.toNat % 4) := by
  have h := shade_eq p i.toNat i.isLt
  rwa [BitVec.ofNat_toNat, BitVec.setWidth_eq] at h

section
variable (s : State) {bgIdx : BitVec 2} (bgShade : BitVec 2) {p : SpritePixel}

theorem composite_behind (h : p.attr.getLsbD 7 = true) (hbg : bgIdx ≠ 0) :
    s.composite bgIdx bgShade (some p) = bgShade :=
  if_pos (by rw [h, bne_iff_ne.2 hbg]; rfl)

theorem composite_front (h : p.attr.getLsbD 7 = false ∨ bgIdx = 0) :
    s.composite bgIdx bgShade (some p) =
      BitVec.ofNat 2 ((if p.attr.getLsbD 4 then s.ppu.obp1 else s.ppu.obp0).toNat / 4 ^ p.idx.toNat % 4) := by
  rw [← shade_eq_div]
  refine if_neg ?_
  rcases h with h | h
  · rw [h]
    simp
  · simp [h]

end

/-- Settles O55: a sprite's pixel in whole numbers (`spriteOpaque_eq`), the winner of the fold over the sprites
(`spritePixel_spec`), and the two cases of the composition. -/
theorem spritePriority : Obligations.SpritePriority := by
  intro s sel ly x bgIdx bgShade
  obtain ⟨hnone, hsome⟩ := spritePixel_spec s sel ly x
  exact ⟨fun i _ _ => spriteOpaque_eq s ly x i, spriteIndex_lt s ly x, hnone, hsome, rfl,
    fun p => ⟨composite_behind s bgShade, composite_front s bgShade⟩⟩

end Sys2Proof.Proofs
